-- ==== Sys2Proof/Word.lean ====
section
/-! DEFINITION. The byte of the supervisory link, and nothing more. -/

namespace Sys2Proof

/-- One byte on the supervisory link (R175: eight data bits). -/
abbrev Byte := BitVec 8

end Sys2Proof
end

