-- ==== Sys2Proof/Syntax.lean ====
section
/-! DEFINITION. The commands of the LS-418: one constructor for each row of spec/opcode_table.json. -/

namespace Sys2Proof

/-- A good frame of the supervisory link less its sync, kind, length and CRC (R176): the address byte, the tag and the body. The length field is the body's length. -/
structure Frame where
  address : Byte
  tag : Byte
  body : List Byte
  deriving DecidableEq, Repr

/-- The levels on the six strap lines at the moment a reset samples them (R175). -/
structure Straps where
  address : Fin 16
  baud : Fin 4
  deriving DecidableEq, Repr

/-- The three switches of the frame (R3). -/
inductive FrameSwitch where
  | home
  | backLimit
  | frontLimit
  deriving DecidableEq, Repr

/-- The four head pulse inputs, by the counter each feeds (R38). -/
inductive HeadInput where
  | bwc
  | mac
  | mrc
  | clc
  deriving DecidableEq, Repr

/-- The commands of the part. Requests carry the frame in which they arrive; the other rows are events of the plant wiring, of the line, of the part's timers and of its conversion engine. -/
inductive Instr where
  | powerOnReset (straps : Straps)
  | identify (frame : Frame)
  | status (frame : Frame)
  | service (frame : Frame)
  | resetPart (frame : Frame)
  | home (frame : Frame)
  | scan (frame : Frame)
  | park (frame : Frame)
  | stop (frame : Frame)
  | point (frame : Frame)
  | clearFault (frame : Frame)
  | setDrive (frame : Frame)
  | setGeometry (frame : Frame)
  | loadGrade (frame : Frame)
  | selectGrade (frame : Frame)
  | readGrade (frame : Frame)
  | fetchSummary (frame : Frame)
  | readProfile (frame : Frame)
  | readTrend (frame : Frame)
  | clearProfiles (frame : Frame)
  | setStandardize (frame : Frame)
  | standardize (frame : Frame)
  | readStandardize (frame : Frame)
  | setBreak (frame : Frame)
  | readBreak (frame : Frame)
  | clearBreakCause (frame : Frame)
  | readAlarms (frame : Frame)
  | ackAlarm (frame : Frame)
  | setLines (frame : Frame)
  | readLines (frame : Frame)
  | driveOutputs (frame : Frame)
  | unknownKindRequest (kind : Byte) (frame : Frame)
  | ignoredFrame (kind : Byte) (frame : Frame)
  | lineBreak
  | replyStart
  | replyEnd (straps : Straps)
  | silenceTimeout
  | pwmPeriodStart
  | speedLoopRun
  | stallTimeout
  | homingTimeout
  | currentTrip
  | offTimeEnd
  | tripWindowEnd
  | encoderEdge (towardsFront : Bool)
  | frameSwitchRawChange (switch : FrameSwitch) (active : Bool)
  | frameSwitchSettled (switch : FrameSwitch)
  | headPulse (input : HeadInput)
  | pointTimerExpiry
  | subGateExpiry
  | sampleJobComplete
  | passChunkComplete
  | recoveryDelayExpiry
  | evaluationComplete
  | shutterConfirmRawChange (active : Bool)
  | shutterConfirmSettled
  | shutterWindowExpiry
  | inputRawChange (line : Fin 8) (high : Bool)
  | inputDebounceExpiry (line : Fin 8)
  | characterReceived (byte : Byte) (framingError : Bool) (gapUs : Nat)
  deriving DecidableEq, Repr

end Sys2Proof
end

