-- ==== Sys2Proof/Machine/Arithmetic.lean ====
section
/-! DEFINITION. The named roundings of 3.2 and the other integer operations the chapters use. Products and sums are exact (R53). -/

namespace Sys2Proof.Machine

/-- R53 nearest-up: a / b to the nearest integer, halves upward. -/
def nearestUp (a b : Nat) : Nat := (2 * a + b) / (2 * b)

/-- R54 nearest-away: n / d to the nearest integer, halves away from zero, with the sign of n / d. -/
def nearestAway (n d : Int) : Int :=
  let magnitude : Nat := (2 * n.natAbs + d.natAbs) / (2 * d.natAbs)
  if decide (n < 0) == decide (d < 0) then (magnitude : Int) else -(magnitude : Int)

/-- R55 floor-shift with shift k ≥ 1: floor((d + 2^(k-1)) / 2^k). -/
def floorShift (k : Nat) (d : Int) : Int := (d + 2 ^ (k - 1)) / 2 ^ k

/-- R53 truncation: the quotient toward zero. -/
def truncation (n d : Int) : Int := n.tdiv d

/-- One bit of the square root: keep the bit 2^k when its square still fits. -/
def isqrtBit (v k s : Nat) : Nat := if (s + 2 ^ k) * (s + 2 ^ k) ≤ v then s + 2 ^ k else s

/-- The bits of the square root of v below 2^k, from the highest, added to s. -/
def isqrtBits (v : Nat) : Nat → Nat → Nat
  | 0, s => s
  | k + 1, s => isqrtBits v k (isqrtBit v k s)

/-- R56: the integer square root, floor of the square root. -/
def isqrt (v : Nat) : Nat := isqrtBits v (v.log2 / 2 + 1) 0

/-- R53: the nearer end of a signed range. -/
def clampInt (lo hi x : Int) : Int := max lo (min hi x)

end Sys2Proof.Machine
end

