-- ==== Sys2Proof/Config.lean ====
section
/-! DEFINITION. The figures the manual fixes for the part, and the one point on which two of its rules disagree, as a free value. -/

namespace Sys2Proof.Config

/-- R186: the part code IDENTIFY returns. -/
def partCode : Nat := 0x0418
/-- R186: the revision IDENTIFY returns. -/
def revision : Nat := 3
/-- R186, R30: the largest zone count. -/
def maxZones : Nat := 600
/-- R72, R186: the number of grade slots. -/
def gradeSlots : Nat := 8
/-- R41: the depth of the sample queue. -/
def sampleQueueDepth : Nat := 8
/-- R111: the depth of the summary queue. -/
def summaryQueueDepth : Nat := 4
/-- R113: the size of the trend ring. -/
def trendRingSize : Nat := 64
/-- R193: the most entries one READ_TREND reply carries. -/
def trendReplyLimit : Nat := 32
/-- R38, R39, R61, R66, R128: the value at which counters, the gate timer and count rates saturate. -/
def counterMax : Nat := 16777215
/-- R40: the gate time in µs below which a gate is short. -/
def shortGate : Nat := 2000
/-- R70: the zones of one chunk of steps A, C and D. -/
def chunkZones : Nat := 16
/-- R4: the largest magnitude of the duty buffer. -/
def dutyMax : Int := 1023
/-- R90: the scan number after which the next is 1. -/
def scanNumberMax : Nat := 4294967295
/-- R4: the PWM period in µs. -/
def pwmPeriodUs : Nat := 50
/-- R5: the period of the speed loop in µs. -/
def loopPeriodUs : Nat := 1000
/-- R6: the length of a trip window in µs. -/
def tripWindowUs : Nat := 1000000
/-- R6: the trip count of one window that faults the traverse. -/
def tripLimit : Nat := 8
/-- R7: the stall time in ms that faults the traverse. -/
def stallMs : Nat := 500
/-- R13: the homing time in µs after which homing fails. -/
def homingUs : Nat := 60000000
/-- R3, R135: the debounce time of the frame switches and the shutter confirm in µs. -/
def switchDebounceUs : Nat := 2000
/-- R135: the confirm window of the shutter in µs. -/
def shutterWindowUs : Nat := 500000
/-- R47: the length of a sub-gate in µs. -/
def subGateUs : Nat := 1000000
/-- R177: the longest gap between two characters of a frame in µs. -/
def interByteGapUs : Nat := 1000
/-- R182: the latest start of a reply after its request in µs. -/
def replyDeadlineUs : Nat := 5000
/-- R176: the longest body. -/
def maxBody : Nat := 512
/-- R176: the sync byte. -/
def sync : BitVec 8 := 0xC3
/-- R175, R178: the broadcast address, and the strap setting that gives the part no address. -/
def broadcastAddress : Nat := 15

/-- Whether the park order of a declaration acts in TRANSIT with then-action SCAN or POINT. The table of R25 says that it does, the last words of R145 step 5 that it has no effect there. DESIGN CHOICE: a free value, so neither rule is set aside; safe (log 41). -/
opaque declarationTurnsTransit : Bool

end Sys2Proof.Config
end

