-- ==== Sys2Proof/Machine/State.lean ====
section
/-! DEFINITION. The state of the LS-418 as plain data, block by block, and its value after a power-on reset. -/

namespace Sys2Proof.Machine

/-! ## Traverse controller (01) -/

/-- R1: direction of travel; FWD is position increasing. -/
inductive Direction where
  | fwd
  | rev
  deriving DecidableEq, Repr

/-- R1: phase of SCANNING. -/
inductive ScanPhase where
  | inWindow
  | turn
  deriving DecidableEq, Repr

/-- R1: what follows the arrival of a transit. -/
inductive ThenAction where
  | noAction
  | scan
  | point
  deriving DecidableEq, Repr

/-- R1: target of a transit, P or a point position; a point carries its gate period in ms. -/
inductive Target where
  | park
  | point (position periodMs : Nat)
  deriving DecidableEq, Repr

/-- R14: the homing steps. `moving` is set once the head has come to rest in TO_PARK and the move to P has started. -/
inductive HomingStep where
  | seekClear
  | seekHome
  | toPark (moving : Bool)
  deriving DecidableEq, Repr

/-- R1: the fault kinds. -/
inductive FaultKind where
  | driveCurrent
  | driveStall
  | overtravel
  | homingFailed
  deriving DecidableEq, Repr

/-- R1: the traverse state with the sub-fields each state carries. The dwell phase is read from the dwell step (R124). -/
inductive TraverseState where
  | stopped
  | homing (step : HomingStep)
  | transit (target : Target) (andThen : ThenAction)
  | parked
  | scanning (direction : Direction) (phase : ScanPhase) (approach parkAfterScan : Bool)
  | dwell (resumeScan : Bool)
  | point (position periodMs : Nat)
  | halting
  | faulted (kind : FaultKind)
  deriving DecidableEq, Repr

/-- A debounced contact (R3, R135): raw level, debounced level, and the time in µs the raw level has been stable while the debounce runs. -/
structure Debounced where
  raw : Bool
  level : Bool
  timer : Option Nat
  deriving DecidableEq, Repr

/-- R8: the drive record. -/
structure DriveRecord where
  kp : Nat
  stallDuty : Nat
  offTimeMs : Nat
  transitSpeed : Nat
  homingSpeed : Nat
  deriving DecidableEq, Repr

/-- The traverse controller (R1 to R8, R29). Times are in µs but for `stallMs`. -/
structure Traverse where
  state : TraverseState
  homed : Bool
  dwellHold : Bool
  position : Int
  lastPosition : Int
  vMeas : Int
  buffer : Int
  duty : Int
  drive : DriveRecord
  tripCount : Nat
  windowPhase : Nat
  offTime : Option Nat
  stallMs : Nat
  homingTimer : Option Nat
  home : Debounced
  backLimit : Debounced
  frontLimit : Debounced
  pwmPhase : Nat
  loopPhase : Nat
  deriving DecidableEq, Repr

/-! ## Gate unit (02) -/

/-- R30: the geometry record. -/
structure Geometry where
  L : Nat
  P : Nat
  W0 : Nat
  W1 : Nat
  U : Nat
  Z : Nat
  S : Nat
  deriving DecidableEq, Repr

/-- R34: an armed comparator. -/
structure Comparator where
  direction : Direction
  target : Nat
  deriving DecidableEq, Repr

/-- The three kinds of scan (R92). -/
inductive ScanKind where
  | normal
  | probe
  | skipped
  deriving DecidableEq, Repr

/-- R36: what the gate unit holds of the open scan. -/
structure OpenScan where
  number : Nat
  kind : ScanKind
  deriving DecidableEq, Repr

/-- Four pulse counts (R38). -/
structure Counts where
  bwc : Nat
  mac : Nat
  mrc : Nat
  clc : Nat
  deriving DecidableEq, Repr

/-- R40: kinds of sample record. -/
inductive SampleKind where
  | scan
  | probe
  | point
  deriving DecidableEq, Repr

/-- R40: the seven flags of a sample record. -/
structure SampleFlags where
  shortGate : Bool
  longGate : Bool
  satBw : Bool
  satMa : Bool
  satMr : Bool
  satCl : Bool
  shutterUnconfirmed : Bool
  deriving DecidableEq, Repr

/-- R40: the sample record. Slot index and direction are absent for POINT. -/
structure SampleRecord where
  kind : SampleKind
  number : Nat
  slot : Option Nat
  direction : Option Direction
  gateTime : Nat
  counts : Counts
  flags : SampleFlags
  deriving DecidableEq, Repr

/-- The gate unit (R30 to R48). `unconfirmed` is set when the confirm has not shown open at some moment since the last capture (R40). Point and sub-gate timers are in µs since they started. -/
structure GateUnit where
  geometry : Option Geometry
  comparator : Option Comparator
  openScan : Option OpenScan
  gateTimer : Nat
  counters : Counts
  unconfirmed : Bool
  queue : List SampleRecord
  held : Option SampleRecord
  pointTimer : Option Nat
  subGateTimer : Option Nat
  pointSequence : Nat
  deriving DecidableEq, Repr

/-! ## Values per channel -/

/-- The four channels. -/
inductive Channel where
  | bw
  | moi
  | cal
  | dry
  deriving DecidableEq, Repr

/-- One value for each of the four channels. -/
structure PerChannel (α : Type) where
  bw : α
  moi : α
  cal : α
  dry : α
  deriving DecidableEq, Repr

/-- R58, R94: a channel of a slot entry or slot result. A value and a clamped indication exist only when VALID; EMPTY occurs only in an accumulator. -/
inductive Reading where
  | empty
  | valid (value : Nat) (clamped : Bool)
  | invalid
  | absent
  deriving DecidableEq, Repr

/-! ## Grade store (04) -/

/-- R68, R75: a calibration table, breakpoints (key, output) in the order loaded. -/
abbrev Table := List (Nat × Nat)

/-- R74: the moisture part. -/
structure MoisturePart where
  table : Table
  floor : Nat
  target : Nat
  band : Nat
  deriving DecidableEq, Repr

/-- R73, R74: the grade record. -/
structure GradeRecord where
  code : Nat
  speed : Nat
  bwTable : Table
  bwTarget : Nat
  bwBand : Nat
  edgeThreshold : Nat
  edgeGuard : Nat
  minSheetZones : Nat
  breakThreshold : Nat
  breakRun : Nat
  filterShift : Nat
  spreadLimit : Nat
  moisture : Option MoisturePart
  caliper : Option Table
  deriving DecidableEq, Repr

/-- R72: a pin list entry. The slot is the active slot at the scan start. -/
structure Pin where
  scan : Nat
  slot : Option Nat
  deriving DecidableEq, Repr

/-- R72: the grade store. -/
structure GradeStore where
  slots : List (Option GradeRecord)
  active : Option Nat
  staged : Option Nat
  pins : List Pin
  deriving DecidableEq, Repr

/-! ## Standardize unit (06), its references first since jobs carry them -/

/-- R118: the four references. -/
structure References where
  b : Nat
  r0 : Nat
  q0 : Nat
  f0 : Nat
  deriving DecidableEq, Repr

/-- R71, R124: the five exact sums of one dwell phase. -/
structure PhaseSums where
  time : Nat
  bw : Nat
  ma : Nat
  mr : Nat
  cl : Nat
  deriving DecidableEq, Repr

/-- R124: the dwell steps. -/
inductive DwellStep where
  | dark
  | opening
  | air
  | evaluating
  deriving DecidableEq, Repr

/-- R124: the dwell record. -/
structure DwellRecord where
  step : DwellStep
  taken : Nat
  dark : PhaseSums
  air : PhaseSums
  darkShutter : Bool
  satBw : Bool
  satMa : Bool
  satMr : Bool
  satCl : Bool
  deriving DecidableEq, Repr

/-- R119: the standardize settings. -/
structure StdSettings where
  interval : Nat
  phaseLength : Nat
  bwLimit : Nat
  moiLimit : Nat
  calLimit : Nat
  deriving DecidableEq, Repr

/-- R129: reasons of a rejection. -/
inductive RejectReason where
  | darkShutter
  | saturated
  | noReferenceBand
  | zero
  | drift
  deriving DecidableEq, Repr

/-- R129, R133: the last result of a channel; `noResult` until a standardize has completed. -/
inductive StdResult where
  | noResult
  | adopted
  | first
  | rejected (reason : RejectReason)
  deriving DecidableEq, Repr

/-- R129, R130: what the standardize unit records per channel. -/
structure StdChannel where
  result : StdResult
  candidate : Option Nat
  drift : Option Nat
  rejects : Nat
  suspect : Bool
  deriving DecidableEq, Repr

/-- R135: the state of the shutter supervision. -/
inductive Supervision where
  | settling
  | agreed
  | failed
  deriving DecidableEq, Repr

/-- The standardize unit (R118 to R137). `posted` is the evaluation that waits for the engine. -/
structure Standardize where
  refs : References
  settings : StdSettings
  countdown : Option Nat
  wanted : Bool
  bw : StdChannel
  moi : StdChannel
  cal : StdChannel
  lastScan : Nat
  dwell : Option DwellRecord
  posted : Option (PhaseSums × PhaseSums)
  stdDone : Bool
  shutterOpen : Bool
  supervision : Supervision
  window : Nat
  confirm : Debounced
  deriving DecidableEq, Repr

/-! ## Profile builder (05), its pass steps first since chunks carry them -/

/-- R97: the steps of a pass. -/
inductive PassStep where
  | assembly
  | edges
  | statistics
  | filter
  | finish
  deriving DecidableEq, Repr

/-- R94: an accumulator's slot entry. -/
structure SlotEntry where
  readings : PerChannel Reading
  missed : Bool
  deriving DecidableEq, Repr

/-- R91: the stages of a scan context. -/
inductive ScanStage where
  | gating
  | ended
  | complete
  | inPass
  deriving DecidableEq, Repr

/-- R94: the two accumulators. -/
inductive AccId where
  | acc0
  | acc1
  deriving DecidableEq, Repr

/-- R91: a scan context. `order` is the place of its scan start among all scan starts since the last reset (log 20); stage `gating` is the rule's OPEN. -/
structure ScanContext where
  number : Nat
  order : Nat
  kind : ScanKind
  direction : Direction
  slot : Option Nat
  accumulator : Option AccId
  stage : ScanStage
  gateNotice : Bool
  deriving DecidableEq, Repr

/-- R98: a zone's channel after assembly. -/
inductive ZoneReading where
  | valid (value : Nat)
  | invalid
  | absent
  deriving DecidableEq, Repr

/-- R97: one zone of the pass record's zone table. -/
structure ZoneEntry where
  readings : PerChannel ZoneReading
  onSheet : Bool
  deriving DecidableEq, Repr

/-- R99: the edge record; `span` is first and last, absent when no zone is on-sheet. -/
structure EdgeRecord where
  span : Option (Nat × Nat)
  width : Nat
  holes : Nat
  deriving DecidableEq, Repr

/-- R97, R101: the running sums of a channel; extremes are (value, zone). -/
structure RunningSums where
  n : Nat
  sum : Nat
  sumSq : Nat
  least : Option (Nat × Nat)
  greatest : Option (Nat × Nat)
  clampedSlots : Nat
  deriving DecidableEq, Repr

/-- R97: the pass record. `offered` is set while the next chunk waits for the engine. -/
structure PassRecord where
  scan : Nat
  step : PassStep
  nextZone : Nat
  offered : Bool
  zones : List ZoneEntry
  edges : EdgeRecord
  sums : PerChannel RunningSums
  reseeded : Bool
  deriving DecidableEq, Repr

/-- R107: the last-scan status of a zone's channel. -/
inductive LastReading where
  | unwritten
  | valid (value : Nat)
  | invalid
  | absent
  deriving DecidableEq, Repr

/-- R107: one channel of one zone of a profile set. -/
structure ProfileCell where
  filtered : Option Nat
  age : Nat
  last : LastReading
  deriving DecidableEq, Repr

/-- R107: one zone of a profile set. -/
structure ProfileZone where
  cells : PerChannel ProfileCell
  onSheet : Bool
  deriving DecidableEq, Repr

/-- R101: the figures of a channel whose status is OK. -/
structure ChannelFigures where
  mean : Nat
  twoSigma : Nat
  least : Nat
  leastZone : Nat
  greatest : Nat
  greatestZone : Nat
  deriving DecidableEq, Repr

/-- R101, R110: status of a summary's channel; figures exist exactly when it is OK. -/
inductive ChannelStatus where
  | ok (figures : ChannelFigures)
  | noData
  | absent
  deriving DecidableEq, Repr

/-- R110: one channel of a summary. -/
structure ChannelSummary where
  status : ChannelStatus
  n : Nat
  clampedSlots : Nat
  deriving DecidableEq, Repr

/-- R158: the sixteen alarm kinds. -/
inductive AlarmKind where
  | sheetBreak
  | edgeHole
  | bwDeviation
  | moiDeviation
  | bwSpread
  | stdRejected
  | stdPersistent
  | shutter
  | driveCurrent
  | driveStall
  | overtravel
  | homingFailed
  | interlock
  | sampleOverrun
  | linkLost
  | scanSkipped
  deriving DecidableEq, Repr

/-- R110: a summary. -/
structure Summary where
  number : Nat
  direction : Direction
  slot : Option Nat
  gradeCode : Nat
  reseeded : Bool
  suspectBw : Bool
  suspectMoi : Bool
  suspectCal : Bool
  edges : EdgeRecord
  channels : PerChannel ChannelSummary
  kinds : List AlarmKind
  deriving DecidableEq, Repr

/-- R58, R113: the flags of a slot result. -/
structure ResultFlags where
  gate : SampleFlags
  notStd : Bool
  deriving DecidableEq, Repr

/-- R113: an entry of the trend ring. -/
structure TrendEntry where
  sequence : Nat
  readings : PerChannel Reading
  flags : ResultFlags
  deriving DecidableEq, Repr

/-- R103: a mark of re-seed, a scan by its number and its place in the order of scan starts. -/
structure Mark where
  scan : Nat
  order : Nat
  deriving DecidableEq, Repr

/-- R103: re-seed while it is set, with its mark A and the later mark kept. -/
structure Reseed where
  mark : Mark
  later : Option Mark
  deriving DecidableEq, Repr

/-- The profile builder (R90 to R117). `starts` counts scan starts since the last reset (log 20). An accumulator is held while a context names it. -/
structure ProfileBuilder where
  scanNumber : Nat
  starts : Nat
  contexts : List ScanContext
  acc0 : List SlotEntry
  acc1 : List SlotEntry
  pass : Option PassRecord
  working : List ProfileZone
  published : List ProfileZone
  publishedScan : Nat
  publishedEdges : Option (Nat × Nat)
  summaries : List Summary
  trend : List TrendEntry
  reseed : Option Reseed
  deriving DecidableEq, Repr

/-! ## Conversion engine (03) -/

/-- R57: a sample job with what it reads fixed when it was taken. `stale` is the mark of R114. -/
structure SampleJob where
  record : SampleRecord
  grade : Option GradeRecord
  refs : References
  stale : Bool
  deriving DecidableEq, Repr

/-- R70: a pass chunk. -/
structure Chunk where
  scan : Nat
  step : PassStep
  firstZone : Nat
  deriving DecidableEq, Repr

/-- R71: a standardize evaluation. `stale` marks one whose dwell was aborted (R132). -/
structure Evaluation where
  dark : PhaseSums
  air : PhaseSums
  stale : Bool
  deriving DecidableEq, Repr

/-- R49: the current job. -/
inductive Job where
  | sample (job : SampleJob)
  | chunk (chunk : Chunk)
  | evaluation (evaluation : Evaluation)
  deriving DecidableEq, Repr

/-- R49: last served. -/
inductive Served where
  | sample
  | pass
  deriving DecidableEq, Repr

/-- The conversion engine (R49): IDLE exactly when there is no current job. -/
structure Engine where
  job : Option Job
  lastServed : Served
  deriving DecidableEq, Repr

/-! ## Break monitor (07) -/

/-- R147: the delay state; RUNNING carries the time remaining in µs. -/
inductive DelayState where
  | notStarted
  | running (remainingUs : Nat)
  | expired
  deriving DecidableEq, Repr

/-- R138: the break state; the delay state is present in WAITING only. -/
inductive BreakState where
  | clear
  | broken
  | waiting (delay : DelayState)
  | probing
  deriving DecidableEq, Repr

/-- R144: the causes. -/
inductive CauseKind where
  | gaugeLoss
  | edgeCollapse
  | input
  deriving DecidableEq, Repr

/-- R145: the origins of a cause. -/
inductive Origin where
  | noOrigin
  | scan
  | point
  deriving DecidableEq, Repr

/-- R145: the break cause record. -/
structure BreakCause where
  kind : CauseKind
  origin : Origin
  scan : Nat
  position : Int
  zone : Option Nat
  detail : Nat
  gradeCode : Option Nat
  deriving DecidableEq, Repr

/-- R138: the gauge-loss watch. -/
inductive Watch where
  | off
  | scan (number : Nat) (region : Option (Nat × Nat))
  | point
  deriving DecidableEq, Repr

/-- R151: the last probe result. -/
structure ProbeResult where
  scan : Nat
  width : Nat
  minimum : Nat
  sheetFound : Bool
  deriving DecidableEq, Repr

/-- The break monitor (R138). -/
structure BreakMonitor where
  state : BreakState
  cause : Option BreakCause
  watch : Watch
  runCount : Nat
  levelCondition : Bool
  recoveryDelay : Nat
  lastProbe : Option ProbeResult
  failedProbes : Nat
  deriving DecidableEq, Repr

/-! ## Alarm and line unit (08) -/

/-- R159: an alarm list entry. -/
structure AlarmEntry where
  kind : AlarmKind
  active : Bool
  acknowledged : Bool
  firstScan : Nat
  count : Nat
  detail : Int
  deriving DecidableEq, Repr

/-- R163: roles of input lines. -/
inductive InputRole where
  | noRole
  | break
  | interlock
  | stdRequest
  | machineRun
  deriving DecidableEq, Repr

/-- R163: modes of input lines. -/
inductive InputMode where
  | level
  | rising
  | falling
  | both
  deriving DecidableEq, Repr

/-- R163, R169: polarity. -/
inductive Polarity where
  | activeHigh
  | activeLow
  deriving DecidableEq, Repr

/-- R163: the setting of an input line. -/
structure InputSetting where
  role : InputRole
  mode : InputMode
  polarity : Polarity
  debounceMs : Nat
  deriving DecidableEq, Repr

/-- R163: an input line. `high` is the debounced level, absent while UNSETTLED; `raw` is the raw level; the stability timer is in µs. -/
structure InputLine where
  setting : InputSetting
  raw : Bool
  high : Option Bool
  timer : Nat
  change : Bool
  deriving DecidableEq, Repr

/-- R169: sources of output lines. -/
inductive OutputSource where
  | manual
  | break
  | alarmUnacked
  | alarmActive
  | fault
  | onSheet
  | scanToggle
  | standardizing
  deriving DecidableEq, Repr

/-- R169: the setting of an output line. -/
structure OutputSetting where
  source : OutputSource
  polarity : Polarity
  deriving DecidableEq, Repr

/-- R169: an output line with its manual latch. -/
structure OutputLine where
  setting : OutputSetting
  manual : Bool
  deriving DecidableEq, Repr

/-- The alarm and line unit (R158 to R174). -/
structure LineUnit where
  alarms : List AlarmEntry
  alarmNew : Bool
  inputs : List InputLine
  outputs : List OutputLine
  scanToggle : Bool
  interlock : Bool
  deriving DecidableEq, Repr

/-! ## Link port (09) -/

/-- R177: the receiver; IN_FRAME holds the bytes taken after the sync, in field order. -/
inductive Receiver where
  | hunting
  | inFrame (buffer : List Byte)
  deriving DecidableEq, Repr

/-- R178: the port state; REPLYING holds the reply frame as fixed at the dispatch (R181). -/
inductive Port where
  | listening
  | replying (frame : List Byte)
  deriving DecidableEq, Repr

/-- R187: the reset cause. -/
inductive ResetCause where
  | powerOn
  | partReset
  deriving DecidableEq, Repr

/-- The link port (R175 to R189). `silence` is the time remaining in µs while the timer is RUNNING; `replyWait` the time in µs since the request's last byte while a reply waits to start. -/
structure LinkPort where
  address : Nat
  baud : Nat
  receiver : Receiver
  port : Port
  transmitting : Bool
  replyWait : Option Nat
  silenceTimeout : Nat
  silence : Option Nat
  resetSeen : Bool
  resetCause : ResetCause
  resetPending : Bool
  deriving DecidableEq, Repr

/-! ## The whole part -/

/-- The state of the part: its nine blocks, and the queue of the commands that wait, first in first out. -/
structure State where
  trc : Traverse
  gtu : GateUnit
  cve : Engine
  grs : GradeStore
  pfb : ProfileBuilder
  sdu : Standardize
  bkm : BreakMonitor
  plx : LineUnit
  slp : LinkPort
  pending : List Instr
  deriving DecidableEq, Repr

/-- No command of this part ends in a fault: the spec describes no event that stops the part (R23 gives FAULTED as a traverse state, R179 a refused request as an outcome). The type has no constructor. -/
inductive Fault where
  deriving DecidableEq, Repr

/-- Why a command has no meaning here. -/
inductive Refusal where
  /-- Raised by an arm of exec that has no meaning yet, by its mnemonic; safe, since the run stops there. No arm raises it. -/
  | notModelled (mnemonic : String)
  deriving DecidableEq, Repr

/-! ## Updates of one block -/

/-- Update the traverse controller. -/
def State.modTrc (s : State) (f : Traverse → Traverse) : State := { s with trc := f s.trc }
/-- Update the gate unit. -/
def State.modGtu (s : State) (f : GateUnit → GateUnit) : State := { s with gtu := f s.gtu }
/-- Update the conversion engine. -/
def State.modCve (s : State) (f : Engine → Engine) : State := { s with cve := f s.cve }
/-- Update the grade store. -/
def State.modGrs (s : State) (f : GradeStore → GradeStore) : State := { s with grs := f s.grs }
/-- Update the profile builder. -/
def State.modPfb (s : State) (f : ProfileBuilder → ProfileBuilder) : State := { s with pfb := f s.pfb }
/-- Update the standardize unit. -/
def State.modSdu (s : State) (f : Standardize → Standardize) : State := { s with sdu := f s.sdu }
/-- Update the break monitor. -/
def State.modBkm (s : State) (f : BreakMonitor → BreakMonitor) : State := { s with bkm := f s.bkm }
/-- Update the alarm and line unit. -/
def State.modPlx (s : State) (f : LineUnit → LineUnit) : State := { s with plx := f s.plx }
/-- Update the link port. -/
def State.modSlp (s : State) (f : LinkPort → LinkPort) : State := { s with slp := f s.slp }

/-! ## Values after a power-on reset -/

/-- A debounced contact right after a reset: the debounced level is the raw level and the debounce restarts (R29, log 6). -/
def Debounced.fresh (raw : Bool) : Debounced := { raw := raw, level := raw, timer := some 0 }

/-- R8: the power-on drive record. -/
def DriveRecord.powerOn : DriveRecord :=
  { kp := 32, stallDuty := 700, offTimeMs := 2, transitSpeed := 3000, homingSpeed := 1000 }

/-- R29, for the levels on the three frame switches and the drive record in force. -/
def Traverse.fresh (drive : DriveRecord) (home back front : Bool) : Traverse :=
  { state := .stopped, homed := false, dwellHold := false, position := 0, lastPosition := 0
    vMeas := 0, buffer := 0, duty := 0, drive := drive, tripCount := 0, windowPhase := 0
    offTime := none, stallMs := 0, homingTimer := none
    home := .fresh home, backLimit := .fresh back, frontLimit := .fresh front
    pwmPhase := 0, loopPhase := 0 }

/-- Four cleared pulse counters. -/
def Counts.zero : Counts := { bwc := 0, mac := 0, mrc := 0, clc := 0 }

/-- R48, for the geometry in force and the level the confirm shows. -/
def GateUnit.fresh (geometry : Option Geometry) (confirmOpen : Bool) : GateUnit :=
  { geometry := geometry, comparator := none, openScan := none, gateTimer := 0
    counters := .zero, unconfirmed := !confirmOpen, queue := [], held := none
    pointTimer := none, subGateTimer := none, pointSequence := 0 }

/-- R52. -/
def Engine.fresh : Engine := { job := none, lastServed := .pass }

/-- The same value for each channel. -/
def PerChannel.const {α : Type} (a : α) : PerChannel α := { bw := a, moi := a, cal := a, dry := a }

/-- R94: an entry of a cleared accumulator. -/
def SlotEntry.cleared : SlotEntry := { readings := .const .empty, missed := false }

/-- R107: a zone of an emptied profile set. -/
def ProfileZone.emptied : ProfileZone :=
  { cells := .const { filtered := none, age := 255, last := .unwritten }, onSheet := false }

/-- R116, for the slot count and zone count of the geometry in force (0 when there is none). -/
def ProfileBuilder.fresh (slotCount zoneCount : Nat) : ProfileBuilder :=
  { scanNumber := 0, starts := 0, contexts := []
    acc0 := List.replicate slotCount .cleared, acc1 := List.replicate slotCount .cleared
    pass := none
    working := List.replicate zoneCount .emptied, published := List.replicate zoneCount .emptied
    publishedScan := 0, publishedEdges := none, summaries := [], trend := []
    reseed := some { mark := { scan := 1, order := 1 }, later := none } }

/-- R137: the power-on references. -/
def References.zero : References := { b := 0, r0 := 0, q0 := 0, f0 := 0 }

/-- R119: the power-on settings. -/
def StdSettings.powerOn : StdSettings :=
  { interval := 0, phaseLength := 4, bwLimit := 50, moiLimit := 50, calLimit := 50 }

/-- R137: a channel with no result yet. -/
def StdChannel.fresh : StdChannel :=
  { result := .noResult, candidate := none, drift := none, rejects := 0, suspect := false }

/-- R137: the power-on column, for the raw level of the shutter confirm. -/
def Standardize.powerOn (confirm : Bool) : Standardize :=
  { refs := .zero, settings := .powerOn, countdown := none, wanted := false
    bw := .fresh, moi := .fresh, cal := .fresh, lastScan := 0, dwell := none, posted := none
    stdDone := false, shutterOpen := false, supervision := .settling, window := 0
    confirm := .fresh confirm }

/-- R157: the power-on column. -/
def BreakMonitor.powerOn : BreakMonitor :=
  { state := .clear, cause := none, watch := .off, runCount := 0, levelCondition := false
    recoveryDelay := 30, lastProbe := none, failedProbes := 0 }

/-- R163: the power-on setting of an input line. -/
def InputSetting.powerOn : InputSetting :=
  { role := .noRole, mode := .level, polarity := .activeHigh, debounceMs := 10 }

/-- R174: an input line right after a reset, for its setting and its raw level. -/
def InputLine.fresh (setting : InputSetting) (raw : Bool) : InputLine :=
  { setting := setting, raw := raw, high := none, timer := 0, change := false }

/-- R169, R174: an output line after power-on. -/
def OutputLine.powerOn : OutputLine :=
  { setting := { source := .manual, polarity := .activeHigh }, manual := false }

/-- R174: the power-on column, for the raw levels of the input lines. -/
def LineUnit.powerOn (raws : List Bool) : LineUnit :=
  { alarms := [], alarmNew := false, inputs := raws.map (InputLine.fresh .powerOn)
    outputs := List.replicate 6 .powerOn, scanToggle := false, interlock := true }

/-- R189: the power-on column, for the straps sampled. -/
def LinkPort.powerOn (address baud : Nat) : LinkPort :=
  { address := address, baud := baud, receiver := .hunting, port := .listening
    transmitting := false, replyWait := none, silenceTimeout := 0, silence := none
    resetSeen := true, resetCause := .powerOn, resetPending := false }

/-- The part right after a power-on reset, no command waiting: every block at its power-on values (R29, R48, R52, R89, R116, R137, R157, R174, R189). Straps 0 and inactive inputs are DESIGN CHOICES (logs 4 and 5). -/
def State.reset : State :=
  { trc := .fresh .powerOn false false false
    gtu := .fresh none false
    cve := .fresh
    grs := { slots := List.replicate Config.gradeSlots none, active := none, staged := none, pins := [] }
    pfb := .fresh 0 0
    sdu := .powerOn false
    bkm := .powerOn
    plx := .powerOn (List.replicate 8 false)
    slp := .powerOn 0 0
    pending := [] }

end Sys2Proof.Machine
end

