-- ==== Sys2Proof/Machine/Operands.lean ====
section
/-! DEFINITION. Request kinds and request bodies: the bytes of a request read as the record they carry (R190, R191), the range of each record, and the record written back as bytes. -/

namespace Sys2Proof.Machine

/-! ## Bytes -/

/-- A number as one byte. -/
def byteOf (n : Nat) : Byte := BitVec.ofNat 8 n

/-- R190: a two-byte field, little-endian. -/
def le16 (n : Nat) : List Byte := [byteOf n, byteOf (n / 256)]

/-- R190: a four-byte field, little-endian. -/
def le32 (n : Nat) : List Byte :=
  [byteOf n, byteOf (n / 256), byteOf (n / 65536), byteOf (n / 16777216)]

/-- R190: a signed two-byte field in two's complement. -/
def signed16 (i : Int) : List Byte := le16 (i % 65536).toNat

/-- R190: a signed four-byte field in two's complement. -/
def signed32 (i : Int) : List Byte := le32 (i % 4294967296).toNat

/-- The byte at an offset; 0 beyond the end, where no checked length reads. -/
def u8 (l : List Byte) (i : Nat) : Nat := (l.getD i 0).toNat

/-- The two-byte field at an offset. -/
def u16 (l : List Byte) (i : Nat) : Nat := u8 l i + 256 * u8 l (i + 1)

/-- The four-byte field at an offset. -/
def u32 (l : List Byte) (i : Nat) : Nat := u16 l i + 65536 * u16 l (i + 2)

/-! ## Request kinds -/

/-- The request kinds of the introduction's table. -/
inductive ReqKind where
  | identify
  | status
  | service
  | resetPart
  | home
  | scan
  | park
  | stop
  | point
  | clearFault
  | setDrive
  | setGeometry
  | loadGrade
  | selectGrade
  | readGrade
  | fetchSummary
  | readProfile
  | readTrend
  | clearProfiles
  | setStandardize
  | standardize
  | readStandardize
  | setBreak
  | readBreak
  | clearBreakCause
  | readAlarms
  | ackAlarm
  | setLines
  | readLines
  | driveOutputs
  deriving DecidableEq, Repr

/-- Every request kind. -/
def allReqKinds : List ReqKind :=
  [.identify, .status, .service, .resetPart, .home, .scan, .park, .stop, .point, .clearFault,
   .setDrive, .setGeometry, .loadGrade, .selectGrade, .readGrade, .fetchSummary, .readProfile,
   .readTrend, .clearProfiles, .setStandardize, .standardize, .readStandardize, .setBreak,
   .readBreak, .clearBreakCause, .readAlarms, .ackAlarm, .setLines, .readLines, .driveOutputs]

/-- The kind codes of the introduction's table. -/
def kindCode : ReqKind → Nat
  | .identify => 0x01
  | .status => 0x02
  | .service => 0x03
  | .resetPart => 0x04
  | .home => 0x10
  | .scan => 0x11
  | .park => 0x12
  | .stop => 0x13
  | .point => 0x14
  | .clearFault => 0x15
  | .setDrive => 0x16
  | .setGeometry => 0x20
  | .loadGrade => 0x28
  | .selectGrade => 0x29
  | .readGrade => 0x2A
  | .fetchSummary => 0x30
  | .readProfile => 0x31
  | .readTrend => 0x32
  | .clearProfiles => 0x33
  | .setStandardize => 0x38
  | .standardize => 0x39
  | .readStandardize => 0x3A
  | .setBreak => 0x40
  | .readBreak => 0x41
  | .clearBreakCause => 0x42
  | .readAlarms => 0x48
  | .ackAlarm => 0x49
  | .setLines => 0x4A
  | .readLines => 0x4B
  | .driveOutputs => 0x4C

/-- The request a kind byte names, if it is a code of the table. -/
def kindOf (code : Nat) : Option ReqKind := allReqKinds.find? (fun k => kindCode k == code)

/-- R180: the kinds acted on when broadcast. -/
def actsOnBroadcast : ReqKind → Bool
  | .service | .park | .stop => true
  | _ => false

/-! ## Grade records -/

/-- R191: c breakpoints of four bytes, key then output. -/
def readPoints : Nat → List Byte → Option (Table × List Byte)
  | 0, l => some ([], l)
  | c + 1, k0 :: k1 :: y0 :: y1 :: l =>
    (readPoints c l).map fun r =>
      ((k0.toNat + 256 * k1.toNat, y0.toNat + 256 * y1.toNat) :: r.1, r.2)
  | _ + 1, _ => none

/-- R191: a table, its count byte first. -/
def readTable : List Byte → Option (Table × List Byte)
  | [] => none
  | c :: l => readPoints c.toNat l

/-- R191: the moisture part, present when its bit is set. -/
def readMoisture (present : Bool) (l : List Byte) : Option (Option MoisturePart × List Byte) :=
  if present then
    match l with
    | f0 :: f1 :: t0 :: t1 :: b0 :: b1 :: rest =>
      (readTable rest).map fun r =>
        (some { table := r.1, floor := f0.toNat + 256 * f1.toNat
                target := t0.toNat + 256 * t1.toNat, band := b0.toNat + 256 * b1.toNat }, r.2)
    | _ => none
  else some (none, l)

/-- R191: the caliper part, present when its bit is set. -/
def readCaliper (present : Bool) (l : List Byte) : Option (Option Table × List Byte) :=
  if present then (readTable l).map fun r => (some r.1, r.2) else some (none, l)

/-- What the walk of a LOAD_GRADE body gives: the slot number, the parts byte and the record, its ranges not yet checked. -/
structure GradeBody where
  slot : Nat
  parts : Nat
  record : GradeRecord
  deriving DecidableEq, Repr

/-- R191: the walk of a LOAD_GRADE body; none when it does not end exactly at the body's last byte. -/
def walkGrade (body : List Byte) : Option GradeBody :=
  if body.length < 21 then none else
  let parts := u8 body 20
  match readTable (body.drop 21) with
  | none => none
  | some (bwTable, rest1) =>
    match readMoisture (parts % 2 == 1) rest1 with
    | none => none
    | some (moisture, rest2) =>
      match readCaliper (parts / 2 % 2 == 1) rest2 with
      | some (caliper, []) =>
        some
          { slot := u8 body 0, parts := parts
            record :=
              { code := u16 body 1, speed := u16 body 3, bwTable := bwTable
                bwTarget := u16 body 5, bwBand := u16 body 7, edgeThreshold := u16 body 9
                edgeGuard := u8 body 11, minSheetZones := u16 body 12
                breakThreshold := u16 body 14, breakRun := u8 body 16, filterShift := u8 body 17
                spreadLimit := u16 body 18, moisture := moisture, caliper := caliper } }
      | _ => none

/-- Strictly increasing. -/
def ascending : List Nat → Bool
  | a :: b :: l => a < b && ascending (b :: l)
  | _ => true

/-- Strictly decreasing. -/
def descending : List Nat → Bool
  | a :: b :: l => b < a && descending (b :: l)
  | _ => true

/-- R75: a valid calibration table. -/
def tableValid (t : Table) : Bool :=
  2 ≤ t.length && t.length ≤ 16 && t.all (fun p => p.1 ≤ 65535 && p.2 ≤ 65535)
    && (ascending (t.map Prod.fst) || descending (t.map Prod.fst))

/-- R74: the ranges of the moisture part. -/
def MoisturePart.inRange (m : MoisturePart) : Bool :=
  tableValid m.table && m.floor ≤ 65535 && m.target ≤ 9999 && m.band ≤ 9999

/-- R73, R74, R75: every field of the record in its range and every table valid. -/
def GradeRecord.inRange (g : GradeRecord) : Bool :=
  g.code ≤ 65535 && (500 ≤ g.speed && g.speed ≤ 15000) && tableValid g.bwTable
    && g.bwTarget ≤ 65535 && g.bwBand ≤ 65535 && g.edgeThreshold ≤ 65535 && g.edgeGuard ≤ 8
    && (1 ≤ g.minSheetZones && g.minSheetZones ≤ 600) && g.breakThreshold ≤ 65535
    && (2 ≤ g.breakRun && g.breakRun ≤ 64) && g.filterShift ≤ 6 && g.spreadLimit ≤ 65535
    && g.moisture.all MoisturePart.inRange && g.caliper.all tableValid

/-- R191: a table as bytes. -/
def tableBytes (t : Table) : List Byte :=
  byteOf t.length :: t.flatMap fun p => le16 p.1 ++ le16 p.2

/-- R191: the moisture part as bytes; nothing when absent. -/
def moistureBytes : Option MoisturePart → List Byte
  | none => []
  | some m => le16 m.floor ++ le16 m.target ++ le16 m.band ++ tableBytes m.table

/-- R191: the caliper part as bytes; nothing when absent. -/
def caliperBytes : Option Table → List Byte
  | none => []
  | some t => tableBytes t

/-- R191: the parts byte. -/
def partsByte (g : GradeRecord) : Nat :=
  (if g.moisture.isSome then 1 else 0) + (if g.caliper.isSome then 2 else 0)

/-- R191, R192: a grade record in the LOAD_GRADE layout. -/
def gradeBytes (slot : Nat) (g : GradeRecord) : List Byte :=
  [byteOf slot] ++ le16 g.code ++ le16 g.speed ++ le16 g.bwTarget ++ le16 g.bwBand
    ++ le16 g.edgeThreshold ++ [byteOf g.edgeGuard] ++ le16 g.minSheetZones
    ++ le16 g.breakThreshold ++ [byteOf g.breakRun, byteOf g.filterShift] ++ le16 g.spreadLimit
    ++ [byteOf (partsByte g)] ++ tableBytes g.bwTable ++ moistureBytes g.moisture
    ++ caliperBytes g.caliper

/-! ## The other bodies -/

/-- R179, R191: whether the body length is one the kind accepts. -/
def bodyFits : ReqKind → List Byte → Bool
  | .identify, b | .status, b | .resetPart, b | .home, b | .park, b | .stop, b | .clearFault, b
  | .fetchSummary, b | .clearProfiles, b | .standardize, b | .readStandardize, b | .readBreak, b
  | .clearBreakCause, b | .readAlarms, b | .readLines, b => b.length == 0
  | .service, b | .scan, b | .selectGrade, b | .readGrade, b | .readTrend, b | .ackAlarm, b =>
    b.length == 1
  | .setBreak, b | .driveOutputs, b => b.length == 2
  | .readProfile, b => b.length == 5
  | .point, b => b.length == 6
  | .setDrive, b | .setStandardize, b => b.length == 8
  | .setGeometry, b => b.length == 21
  | .setLines, b => b.length == 44
  | .loadGrade, b => (walkGrade b).isSome

/-- R8, R191: the drive record of a SET_DRIVE body. -/
def readDrive (b : List Byte) : DriveRecord :=
  { kp := u8 b 0, stallDuty := u16 b 1, offTimeMs := u8 b 3, transitSpeed := u16 b 4
    homingSpeed := u16 b 6 }

/-- R191: a drive record as a SET_DRIVE body. -/
def driveBytes (d : DriveRecord) : List Byte :=
  [byteOf d.kp] ++ le16 d.stallDuty ++ [byteOf d.offTimeMs] ++ le16 d.transitSpeed
    ++ le16 d.homingSpeed

/-- R8: the ranges of the drive record. -/
def DriveRecord.inRange (d : DriveRecord) : Bool :=
  (1 ≤ d.kp && d.kp ≤ 255) && (256 ≤ d.stallDuty && d.stallDuty ≤ 1023)
    && (d.offTimeMs == 1 || d.offTimeMs == 2 || d.offTimeMs == 4 || d.offTimeMs == 8)
    && (500 ≤ d.transitSpeed && d.transitSpeed ≤ 10000)
    && (200 ≤ d.homingSpeed && d.homingSpeed ≤ 3000)

/-- R30, R191: the geometry record of a SET_GEOMETRY body. -/
def readGeometry (b : List Byte) : Geometry :=
  { L := u32 b 0, P := u32 b 4, W0 := u32 b 8, W1 := u32 b 12, U := u16 b 16, Z := u16 b 18
    S := u8 b 20 }

/-- R191: a geometry record as a SET_GEOMETRY body. -/
def geometryBytes (g : Geometry) : List Byte :=
  le32 g.L ++ le32 g.P ++ le32 g.W0 ++ le32 g.W1 ++ le16 g.U ++ le16 g.Z ++ [byteOf g.S]

/-- R119, R191: the settings record of a SET_STANDARDIZE body. -/
def readStdSettings (b : List Byte) : StdSettings :=
  { interval := u8 b 0, phaseLength := u8 b 1, bwLimit := u16 b 2, moiLimit := u16 b 4
    calLimit := u16 b 6 }

/-- R191, R192: a settings record in the SET_STANDARDIZE layout. -/
def stdSettingsBytes (r : StdSettings) : List Byte :=
  [byteOf r.interval, byteOf r.phaseLength] ++ le16 r.bwLimit ++ le16 r.moiLimit ++ le16 r.calLimit

/-- R119: the ranges of the settings record. -/
def StdSettings.inRange (r : StdSettings) : Bool :=
  r.interval ≤ 255 && (1 ≤ r.phaseLength && r.phaseLength ≤ 15)
    && (1 ≤ r.bwLimit && r.bwLimit ≤ 500) && (1 ≤ r.moiLimit && r.moiLimit ≤ 500)
    && (1 ≤ r.calLimit && r.calLimit ≤ 500)

/-- R190: input role codes. -/
def roleOf : Nat → Option InputRole
  | 0 => some .noRole
  | 1 => some .break
  | 2 => some .interlock
  | 3 => some .stdRequest
  | 4 => some .machineRun
  | _ => none

/-- R190: input mode codes. -/
def modeOf : Nat → Option InputMode
  | 0 => some .level
  | 1 => some .rising
  | 2 => some .falling
  | 3 => some .both
  | _ => none

/-- R190: polarity codes. -/
def polarityOf : Nat → Option Polarity
  | 0 => some .activeHigh
  | 1 => some .activeLow
  | _ => none

/-- R190: output source codes. -/
def sourceOf : Nat → Option OutputSource
  | 0 => some .manual
  | 1 => some .break
  | 2 => some .alarmUnacked
  | 3 => some .alarmActive
  | 4 => some .fault
  | 5 => some .onSheet
  | 6 => some .scanToggle
  | 7 => some .standardizing
  | _ => none

/-- R171, R191: the setting of input line i in a SET_LINES body; none when a field is out of range. -/
def readInputSetting (b : List Byte) (i : Nat) : Option InputSetting :=
  match roleOf (u8 b (4 * i)), modeOf (u8 b (4 * i + 1)), polarityOf (u8 b (4 * i + 2)) with
  | some role, some mode, some polarity =>
    let setting : InputSetting :=
      { role := role, mode := mode, polarity := polarity, debounceMs := u8 b (4 * i + 3) }
    if setting.debounceMs == 0
        || ((role == .interlock || role == .machineRun) && mode != .level) then none
    else some setting
  | _, _, _ => none

/-- R171, R191: the setting of output line i in a SET_LINES body; none when a field is out of range. -/
def readOutputSetting (b : List Byte) (i : Nat) : Option OutputSetting :=
  match sourceOf (u8 b (32 + 2 * i)), polarityOf (u8 b (32 + 2 * i + 1)) with
  | some source, some polarity => some { source := source, polarity := polarity }
  | _, _ => none

/-- R171: the line record: eight input settings and six output settings. -/
structure LineRecord where
  inputs : List InputSetting
  outputs : List OutputSetting
  deriving DecidableEq, Repr

/-- R171: the line record of a SET_LINES body; none when it is refused with RANGE. -/
def readLineRecord (b : List Byte) : Option LineRecord :=
  match (List.range 8).mapM (readInputSetting b), (List.range 6).mapM (readOutputSetting b) with
  | some inputs, some outputs => some { inputs := inputs, outputs := outputs }
  | _, _ => none

/-- R16, R191: PROBE_NOW of a SCAN body; none when an unassigned bit is set. -/
def readProbeNow (b : List Byte) : Option Bool :=
  if u8 b 0 ≤ 1 then some (u8 b 0 == 1) else none

/-- R190: channel codes. -/
def channelOf : Nat → Option Channel
  | 0 => some .bw
  | 1 => some .moi
  | 2 => some .cal
  | 3 => some .dry
  | _ => none

/-- R161, R190: the alarm kinds by number. -/
def alarmKindOf : Nat → Option AlarmKind
  | 1 => some .sheetBreak
  | 2 => some .edgeHole
  | 3 => some .bwDeviation
  | 4 => some .moiDeviation
  | 5 => some .bwSpread
  | 6 => some .stdRejected
  | 7 => some .stdPersistent
  | 8 => some .shutter
  | 9 => some .driveCurrent
  | 10 => some .driveStall
  | 11 => some .overtravel
  | 12 => some .homingFailed
  | 13 => some .interlock
  | 14 => some .sampleOverrun
  | 15 => some .linkLost
  | 16 => some .scanSkipped
  | _ => none

end Sys2Proof.Machine
end

