-- ==== Sys2Proof/Machine/Ops.lean ====
section
/-! DEFINITION. The named operations the blocks share: geometry, lines, alarms, grades, pins, the sample queue, re-seed and captures. -/

namespace Sys2Proof.Machine

/-! ## Traverse state tests -/

/-- R5: the states in which the speed loop runs. -/
def loopRuns : TraverseState → Bool
  | .homing _ | .transit _ _ | .scanning _ _ _ _ | .point _ _ | .halting => true
  | .stopped | .parked | .dwell _ | .faulted _ => false

/-- SCANNING, in any phase. -/
def isScanning : TraverseState → Bool
  | .scanning _ _ _ _ => true
  | _ => false

/-- POINT. -/
def isPoint : TraverseState → Bool
  | .point _ _ => true
  | _ => false

/-- DWELL. -/
def isDwell : TraverseState → Bool
  | .dwell _ => true
  | _ => false

/-- HOMING. -/
def isHoming : TraverseState → Bool
  | .homing _ => true
  | _ => false

/-- FAULTED. -/
def isFaulted : TraverseState → Bool
  | .faulted _ => true
  | _ => false

/-- R168, R188: the states STOPPED, PARKED and FAULTED, in which the head is at rest. -/
def atRest : TraverseState → Bool
  | .stopped | .parked | .faulted _ => true
  | _ => false

/-- R4: the bridge enable output. -/
def bridgeEnabled (s : State) : Bool := !isFaulted s.trc.state

/-- R4: entry into STOPPED, PARKED, DWELL or FAULTED zeroes buffer and duty. -/
def forcesZero (st : TraverseState) : Bool := !loopRuns st

/-! ## Geometry (R30, R33) -/

/-- R30: the slot count N. -/
def Geometry.slotCount (g : Geometry) : Nat := g.Z * g.S

/-- R2: the ramp distance floor(U/2). -/
def Geometry.ramp (g : Geometry) : Nat := g.U / 2

/-- R2: the back reversal point E0. -/
def Geometry.e0 (g : Geometry) : Int := (g.W0 : Int) - (g.ramp : Int)

/-- R2: the front reversal point E1. -/
def Geometry.e1 (g : Geometry) : Int := (g.W1 : Int) + (g.ramp : Int)

/-- R33: the slot boundary b_j. -/
def Geometry.boundary (g : Geometry) (j : Nat) : Nat := g.W0 + j * (g.W1 - g.W0) / g.slotCount

/-- R30, R31: every field in range and every constraint met. -/
def Geometry.inRange (g : Geometry) : Bool :=
  (20000 ≤ g.L && g.L ≤ 130000) && (300 ≤ g.P && g.P ≤ g.L) && g.W0 ≤ g.L
    && (g.W0 + 1 ≤ g.W1 && g.W1 ≤ g.L) && (400 ≤ g.U && g.U ≤ 10000)
    && (8 ≤ g.Z && g.Z ≤ 600) && (1 ≤ g.S && g.S ≤ 8)
    && ((g.P : Int) + 200 ≤ g.e0) && (g.e1 ≤ (g.L : Int) - 300) && g.slotCount ≤ 2400
    && (20 * g.slotCount ≤ g.W1 - g.W0)

/-- R145: the position lies in [W0, W1]. -/
def Geometry.inWindow (g : Geometry) (p : Int) : Bool := (g.W0 : Int) ≤ p && p ≤ (g.W1 : Int)

/-- R145: the zone containing a position of the window: that of the last slot whose boundary b_j is not beyond it. -/
def Geometry.zoneAt (g : Geometry) (p : Int) : Nat :=
  (((List.range g.slotCount).filter fun j => decide ((g.boundary j : Int) ≤ p)).length - 1) / g.S

/-! ## Values per channel -/

/-- The value of one channel. -/
def PerChannel.get {α : Type} (q : PerChannel α) : Channel → α
  | .bw => q.bw
  | .moi => q.moi
  | .cal => q.cal
  | .dry => q.dry

/-- A value for each channel. -/
def PerChannel.build {α : Type} (f : Channel → α) : PerChannel α :=
  { bw := f .bw, moi := f .moi, cal := f .cal, dry := f .dry }

/-! ## Grades -/

/-- The record a slot number names, if the slot is not EMPTY. -/
def gradeIn (s : State) (slot : Nat) : Option GradeRecord := (s.grs.slots[slot]?).join

/-- The record a slot recorded in a context names. -/
def gradeAt (s : State) (slot : Option Nat) : Option GradeRecord := slot.bind (gradeIn s)

/-- R84: the record of the active slot. -/
def activeGrade (s : State) : Option GradeRecord := gradeAt s s.grs.active

/-- R77: a slot in use: active, staged or named by a pin. -/
def slotInUse (s : State) (slot : Nat) : Bool :=
  s.grs.active == some slot || s.grs.staged == some slot
    || s.grs.pins.any (fun p => p.slot == some slot)

/-! ## Scan contexts -/

/-- The context of a held scan. -/
def contextOf (s : State) (scan : Nat) : Option ScanContext :=
  s.pfb.contexts.find? (fun c => c.number == scan)

/-- R90: the number after a scan number; after 4 294 967 295 comes 1. -/
def nextScanNumber (n : Nat) : Nat := if n == Config.scanNumberMax then 1 else n + 1

/-- R94: an accumulator is held while a context names it. -/
def accHeld (s : State) (a : AccId) : Bool := s.pfb.contexts.any (fun c => c.accumulator == some a)

/-- R187: the number of accumulators held. -/
def accHeldCount (s : State) : Nat :=
  (if accHeld s .acc0 then 1 else 0) + (if accHeld s .acc1 then 1 else 0)

/-- The entries of an accumulator. -/
def ProfileBuilder.entries (p : ProfileBuilder) : AccId → List SlotEntry
  | .acc0 => p.acc0
  | .acc1 => p.acc1

/-- Replace the entries of an accumulator. -/
def ProfileBuilder.withEntries (p : ProfileBuilder) (a : AccId) (l : List SlotEntry) : ProfileBuilder :=
  match a with
  | .acc0 => { p with acc0 := l }
  | .acc1 => { p with acc1 := l }

/-- R94: act on one slot entry of the accumulator a held scan has taken; nothing when no held scan has that number. -/
def modEntry (scan slot : Nat) (f : SlotEntry → SlotEntry) (s : State) : State :=
  match (contextOf s scan).bind ScanContext.accumulator with
  | none => s
  | some a => s.modPfb fun p => p.withEntries a ((p.entries a).modify slot f)

/-- R78, R91: drop the contexts of these scans and with them their pins; their accumulators are free then. -/
def removeScans (numbers : List Nat) (s : State) : State :=
  (s.modPfb fun p => { p with contexts := p.contexts.filter (fun c => !numbers.contains c.number) }).modGrs
    fun g => { g with pins := g.pins.filter (fun p => !numbers.contains p.scan) }

/-! ## Re-seed (R103) -/

/-- R103: set re-seed with a mark. When it is set already, a later mark is kept as the later mark. -/
def setReseed (m : Mark) (s : State) : State :=
  s.modPfb fun p =>
    { p with
      reseed :=
        match p.reseed with
        | none => some { mark := m, later := none }
        | some r => if r.mark.order < m.order then some { r with later := some m } else some r }

/-- R103: the mark "the scan number + 1". -/
def nextMark (s : State) : Mark :=
  { scan := nextScanNumber s.pfb.scanNumber, order := s.pfb.starts + 1 }

/-! ## Alarms (R158 to R161) -/

/-- R158: the numbers of the alarm kinds. -/
def alarmNumber : AlarmKind → Nat
  | .sheetBreak => 1
  | .edgeHole => 2
  | .bwDeviation => 3
  | .moiDeviation => 4
  | .bwSpread => 5
  | .stdRejected => 6
  | .stdPersistent => 7
  | .shutter => 8
  | .driveCurrent => 9
  | .driveStall => 10
  | .overtravel => 11
  | .homingFailed => 12
  | .interlock => 13
  | .sampleOverrun => 14
  | .linkLost => 15
  | .scanSkipped => 16

/-- R158: the event kinds; every other kind is a condition. -/
def isEventKind : AlarmKind → Bool
  | .stdRejected | .sampleOverrun | .scanSkipped => true
  | _ => false

/-- R159: what a raise does to the entry of its kind. -/
def raisedEntry (detail : Int) (e : AlarmEntry) : AlarmEntry :=
  if e.active then { e with count := min 255 (e.count + 1), detail := detail }
  else
    { e with
      active := !isEventKind e.kind, acknowledged := false
      count := min 255 (e.count + 1), detail := detail }

/-- R159: the alarm list after a raise. -/
def raiseIn (kind : AlarmKind) (detail : Int) (scan : Nat) (l : List AlarmEntry) : List AlarmEntry :=
  if l.any (fun e => e.kind == kind) then
    l.map fun e => if e.kind == kind then raisedEntry detail e else e
  else
    l ++ [{ kind := kind, active := !isEventKind kind, acknowledged := false, firstScan := scan
            count := 1, detail := detail }]

/-- R159: a raise that carries its own scan number; it latches ALARM_NEW. -/
def raiseFor (kind : AlarmKind) (detail : Int) (scan : Nat) (s : State) : State :=
  s.modPlx fun p => { p with alarms := raiseIn kind detail scan p.alarms, alarmNew := true }

/-- R158: a raise that carries the number of the latest scan start. -/
def raiseAlarm (kind : AlarmKind) (detail : Int) (s : State) : State :=
  raiseFor kind detail s.pfb.scanNumber s

/-- R160: the alarm list after an ending of a condition kind. -/
def endIn (kind : AlarmKind) (l : List AlarmEntry) : List AlarmEntry :=
  (l.filter fun e => !(e.kind == kind && e.active && e.acknowledged)).map
    fun e => if e.kind == kind then { e with active := false } else e

/-- R160: an ending. -/
def endAlarm (kind : AlarmKind) (s : State) : State :=
  s.modPlx fun p => { p with alarms := endIn kind p.alarms }

/-- R161: the alarm list after the acknowledgement of the entries a test selects. -/
def ackIn (selects : AlarmKind → Bool) (l : List AlarmEntry) : List AlarmEntry :=
  (l.filter fun e => !(selects e.kind && !e.active)).map
    fun e => if selects e.kind then { e with acknowledged := true } else e

/-! ## Input lines (R163 to R167) -/

/-- R163: the debounced state: ACTIVE (true), INACTIVE (false), or UNSETTLED (none). -/
def lineState (l : InputLine) : Option Bool :=
  l.high.map fun high =>
    match l.setting.polarity with
    | .activeHigh => high
    | .activeLow => !high

/-- A line counts as active only when it is ACTIVE. -/
def lineActive (l : InputLine) : Bool := lineState l == some true

/-- R167: the interlock as the lines stand. -/
def interlockFormed (lines : List InputLine) : Bool :=
  lines.all fun l => l.setting.role != .interlock || lineActive l

/-- R165: the line joins the level condition and is ACTIVE. -/
def levelBreakActive (l : InputLine) : Bool :=
  l.setting.role == .break && l.setting.mode == .level && lineActive l

/-- R166: the machine-run signal is present. -/
def machineRunPresent (lines : List InputLine) : Bool :=
  lines.any fun l => l.setting.role == .machineRun

/-- R166: the machine-run signal is active. -/
def machineRunActive (lines : List InputLine) : Bool :=
  lines.any fun l => l.setting.role == .machineRun && lineActive l

/-- The lowest index of a line with a property; 0 when there is none. -/
def lowestLine (test : InputLine → Bool) (lines : List InputLine) : Nat :=
  if lines.any test then lines.findIdx test else 0

/-! ## Output lines (R169) -/

/-- R169: the value of an output source. -/
def sourceValue (s : State) (manual : Bool) : OutputSource → Bool
  | .manual => manual
  | .break => s.bkm.state != .clear
  | .alarmUnacked => s.plx.alarms.any fun e => !e.acknowledged
  | .alarmActive => s.plx.alarms.any fun e => e.active
  | .fault => isFaulted s.trc.state
  | .onSheet => isScanning s.trc.state && s.gtu.geometry.any fun g => g.inWindow s.trc.position
  | .scanToggle => s.plx.scanToggle
  | .standardizing => isDwell s.trc.state

/-- R169: the logical state of an output line. -/
def outputLogical (s : State) (o : OutputLine) : Bool := sourceValue s o.manual o.setting.source

/-- R169: the electrical level an output line drives, true for high. -/
def outputDriven (s : State) (o : OutputLine) : Bool :=
  match o.setting.polarity with
  | .activeHigh => outputLogical s o
  | .activeLow => !outputLogical s o

/-! ## Counters, captures and sample flags (R35, R38, R39, R40) -/

/-- R39: the gate time of the gate that closes at a capture: a reading of 0 is taken as 1. -/
def gateReading (s : State) : Nat := max 1 s.gtu.gateTimer

/-- R35, R38: a capture clears the counters and the gate timer. The unconfirmed mark of the next gate starts from the confirm as it shows (R40). -/
def capture (s : State) : State :=
  s.modGtu fun g =>
    { g with gateTimer := 0, counters := .zero, unconfirmed := !s.sdu.confirm.level }

/-! ## The sample queue (R41 to R45) -/

/-- A record of one of these scans; POINT records belong to none. -/
def ofScans (numbers : List Nat) (r : SampleRecord) : Bool :=
  r.kind != .point && numbers.contains r.number

/-- R42: the held record joins the tail as soon as the queue has room. -/
def joinHeld (g : GateUnit) : GateUnit :=
  match g.held with
  | none => g
  | some r =>
    if g.queue.length < Config.sampleQueueDepth then { g with queue := g.queue ++ [r], held := none }
    else g

/-- R44, R46: remove at once the records a test selects; the held record then joins the queue if there is room. -/
def removeRecords (selects : SampleRecord → Bool) (g : GateUnit) : GateUnit :=
  joinHeld
    { g with
      queue := g.queue.filter fun r => !selects r
      held := g.held.filter fun r => !selects r }

/-- R44: a purge of a set of scan numbers. -/
def purge (numbers : List Nat) (s : State) : State := s.modGtu (removeRecords (ofScans numbers))

/-- R45: whether records of a scan remain in the queue or the holding record. -/
def recordsRemain (g : GateUnit) (scan : Nat) : Bool :=
  (g.queue ++ g.held.toList).any (ofScans [scan])

/-- R43: an overrun: the displaced record's slot is marked MISSED and SAMPLE_OVERRUN raised. -/
def overrun (displaced : SampleRecord) (s : State) : State :=
  match displaced.kind with
  | .point => raiseAlarm .sampleOverrun displaced.number s
  | .scan | .probe =>
    let slot := displaced.slot.getD 0
    let zone := match s.gtu.geometry with
      | some g => slot / g.S
      | none => slot
    raiseFor .sampleOverrun zone displaced.number
      (modEntry displaced.number slot (fun e => { e with missed := true }) s)

/-- R41: place a record formed at a gate close. -/
def place (r : SampleRecord) (s : State) : State :=
  if s.gtu.queue.length < Config.sampleQueueDepth then
    s.modGtu fun g => { g with queue := g.queue ++ [r] }
  else
    match s.gtu.held with
    | none => s.modGtu fun g => { g with held := some r }
    | some displaced => overrun displaced (s.modGtu fun g => { g with held := some r })

/-! ## Standardize flags -/

/-- R121: set the standardize pending flag. -/
def setWanted (s : State) : State := s.modSdu fun u => { u with wanted := true }

/-- R120: a reload of the countdown from an interval. -/
def countdownFrom (interval : Nat) : Option Nat := if interval == 0 then none else some interval

end Sys2Proof.Machine
end

