-- ==== Sys2Proof/Machine/Flags.lean ====
section
/-! DEFINITION. Flags: those of a sample record, the attention indications, and the codes and flag bytes of the replies (R40, R183, R190). -/

namespace Sys2Proof.Machine

/-- R40: the flags of a record formed from a gate time, the snapshots and the unconfirmed mark. -/
def sampleFlags (gateTime : Nat) (counts : Counts) (unconfirmed : Bool) : SampleFlags :=
  { shortGate := gateTime < Config.shortGate
    longGate := gateTime == Config.counterMax
    satBw := counts.bwc == Config.counterMax
    satMa := counts.mac == Config.counterMax
    satMr := counts.mrc == Config.counterMax
    satCl := counts.clc == Config.counterMax
    shutterUnconfirmed := unconfirmed }

/-- Flag bits, bit 0 first, as a number. -/
def bitsOf : List Bool → Nat
  | [] => 0
  | b :: l => (if b then 1 else 0) + 2 * bitsOf l

/-- R183, R190: the attention byte. -/
def attention (s : State) : Nat :=
  bitsOf
    [!s.pfb.summaries.isEmpty, s.plx.alarmNew, s.sdu.stdDone, isFaulted s.trc.state
     , s.plx.inputs.any InputLine.change, s.slp.resetSeen, s.bkm.state != .clear]

/-- The outcomes of the introduction's table. -/
inductive ReplyCode where
  | done
  | accepted
  | empty
  | unknownKind
  | badLength
  | range
  | state
  | busy
  | notReady
  | slotInUse
  | interlock
  | breakActive
  deriving DecidableEq, Repr

/-- The outcome codes. -/
def replyCode : ReplyCode → Nat
  | .done => 0x00
  | .accepted => 0x01
  | .empty => 0x02
  | .unknownKind => 0x10
  | .badLength => 0x11
  | .range => 0x12
  | .state => 0x13
  | .busy => 0x14
  | .notReady => 0x15
  | .slotInUse => 0x16
  | .interlock => 0x17
  | .breakActive => 0x18

/-- R190: traverse state codes. -/
def traverseCode : TraverseState → Nat
  | .stopped => 0
  | .homing _ => 1
  | .transit _ _ => 2
  | .parked => 3
  | .scanning _ _ _ _ => 4
  | .dwell _ => 5
  | .point _ _ => 6
  | .halting => 7
  | .faulted _ => 8

/-- R190: break state codes. -/
def breakCode : BreakState → Nat
  | .clear => 0
  | .broken => 1
  | .waiting _ => 2
  | .probing => 3

/-- R190: then-action codes; 0 outside TRANSIT. -/
def thenCode : TraverseState → Nat
  | .transit _ .scan => 1
  | .transit _ .point => 2
  | _ => 0

/-- R190, R192: homing step codes; 0xFF outside HOMING. -/
def homingCode : TraverseState → Nat
  | .homing .seekClear => 0
  | .homing .seekHome => 1
  | .homing (.toPark _) => 2
  | _ => 0xFF

/-- R190: fault kind codes; 0 for none. -/
def faultCode : TraverseState → Nat
  | .faulted .driveCurrent => 1
  | .faulted .driveStall => 2
  | .faulted .overtravel => 3
  | .faulted .homingFailed => 4
  | _ => 0

/-- R190: direction codes. -/
def directionCode : Direction → Nat
  | .fwd => 0
  | .rev => 1

/-- R190: standardize result codes. -/
def resultCode : StdResult → Nat
  | .noResult => 0
  | .adopted => 1
  | .first => 2
  | .rejected _ => 3

/-- R190: reject reason codes; 0 for none. -/
def reasonCode : StdResult → Nat
  | .rejected .darkShutter => 1
  | .rejected .saturated => 2
  | .rejected .noReferenceBand => 3
  | .rejected .zero => 4
  | .rejected .drift => 5
  | _ => 0

/-- R190: dwell step codes; 0xFF for none. -/
def dwellCode : Option DwellStep → Nat
  | some .dark => 0
  | some .opening => 1
  | some .air => 2
  | some .evaluating => 3
  | none => 0xFF

/-- R190: delay state codes; 0xFF outside WAITING. -/
def delayCode : BreakState → Nat
  | .waiting .notStarted => 0
  | .waiting (.running _) => 1
  | .waiting .expired => 2
  | _ => 0xFF

/-- R190: break cause codes. -/
def causeCode : CauseKind → Nat
  | .gaugeLoss => 1
  | .edgeCollapse => 2
  | .input => 3

/-- R190: origin codes. -/
def originCode : Origin → Nat
  | .noOrigin => 0
  | .scan => 1
  | .point => 2

/-- R166, R190: machine-run codes. -/
def machineRunCode (lines : List InputLine) : Nat :=
  if machineRunPresent lines then (if machineRunActive lines then 2 else 1) else 0

/-- R190: reset cause codes. -/
def resetCauseCode : ResetCause → Nat
  | .powerOn => 0
  | .partReset => 1

/-- R190: summary channel status codes. -/
def channelStatusCode : ChannelStatus → Nat
  | .ok _ => 0
  | .noData => 1
  | .absent => 2

/-- R193: status codes of a trend entry; EMPTY never stands in the ring. -/
def readingCode : Reading → Nat
  | .valid _ _ => 0
  | .invalid => 1
  | .absent => 2
  | .empty => 1

/-- The value of a VALID reading, 0 otherwise. -/
def readingValue : Reading → Nat
  | .valid v _ => v
  | _ => 0

/-- The clamped indication, set only on a VALID channel. -/
def readingClamped : Reading → Bool
  | .valid _ c => c
  | _ => false

/-- R190: a slot number, or 0xFF for none. -/
def slotCode (slot : Option Nat) : Nat := slot.getD 0xFF

/-- R190: a zone, or 0xFFFF when absent. -/
def zoneCode (zone : Option Nat) : Nat := zone.getD 0xFFFF

/-- R190: a countdown, or 0xFFFF when off. -/
def countdownCode (countdown : Option Nat) : Nat := countdown.getD 0xFFFF

/-- R124: the dwell phase is AIR, while a dwell's step is not DARK. -/
def dwellPhaseAir (s : State) : Bool :=
  match s.sdu.dwell with
  | some d => d.step != .dark
  | none => false

end Sys2Proof.Machine
end

