-- ==== Sys2Proof/Machine/Conversion.lean ====
section
/-! DEFINITION. The conversion engine: slot conversion, calibration tables, the arbiter (03). -/

namespace Sys2Proof.Machine

/-! ## Calibration tables (R68, R69) -/

/-- R69: the output on the segment from p to q at an input x that it encloses. -/
def interpolate (p q : Nat × Nat) (x : Nat) : Nat :=
  ((p.2 : Int) + nearestAway (((q.2 : Int) - (p.2 : Int)) * ((x : Int) - (p.1 : Int)))
    ((q.1 : Int) - (p.1 : Int))).toNat

/-- R68: the two keys of a segment enclose x, ends included. -/
def encloses (x : Nat) (p q : Nat × Nat) : Bool :=
  (p.1 ≤ x && x ≤ q.1) || (q.1 ≤ x && x ≤ p.1)

/-- R68: the first segment, in table order, that encloses x. -/
def segmentAt (x : Nat) : Table → Option ((Nat × Nat) × (Nat × Nat))
  | p :: q :: t => if encloses x p q then some (p, q) else segmentAt x (q :: t)
  | _ => none

/-- R68: an input that no segment encloses lies before the first key in the direction of the table. -/
def beforeFirst (x : Nat) : Table → Bool
  | p :: q :: _ => if p.1 < q.1 then x < p.1 else p.1 < x
  | _ => true

/-- R68: the lookup, and whether it was clamped. -/
def lookup (t : Table) (x : Nat) : Nat × Bool :=
  match segmentAt x t with
  | some (p, q) => (interpolate p q x, false)
  | none => (if beforeFirst x t then (t.head?.map Prod.snd).getD 0 else (t.getLast?.map Prod.snd).getD 0, true)

/-! ## The channel stages (R59 to R66) -/

/-- A value held to the upper end of its range, and whether it lay beyond it. -/
def cap (limit x : Nat) : Nat × Bool := if limit < x then (limit, true) else (x, false)

/-- R53: the quotient a / b rounded nearest-up, held to the upper end of its range when the exact quotient lies beyond it, and whether it does. -/
def capQuotient (limit a b : Nat) : Nat × Bool :=
  if limit * b < a then (limit, true) else (nearestUp a b, false)

/-- R61, R66: a count rate per second, saturating, and whether the exact rate exceeds the limit. -/
def countRate (n gateTime : Nat) : Nat × Bool := capQuotient Config.counterMax (n * 1000000) gateTime

/-- R61, R62: the basis-weight stage. -/
def bwStage (r : SampleRecord) (refs : References) (table : Table) : Reading :=
  if r.flags.satBw || refs.r0 == 0 then .invalid
  else
    let rate := countRate r.counts.bwc r.gateTime
    let net := rate.1 - refs.b
    let t := capQuotient 65535 (net * 65536) refs.r0
    let bw := lookup table t.1
    .valid bw.1 (rate.2 || t.2 || bw.2)

/-- R63: the water weight and whether it is marked clamped; none when the stage ends INVALID. -/
def waterStage (r : SampleRecord) (refs : References) (table : Table) : Option (Nat × Bool) :=
  if r.flags.satMa || r.flags.satMr || r.counts.mrc == 0 then none
  else
    let q := capQuotient 65535 (r.counts.mac * 16384) r.counts.mrc
    let qn := capQuotient 65535 (q.1 * 16384) refs.q0
    let w := lookup table qn.1
    some (w.1, q.2 || qn.2 || w.2)

/-- R64: MOI from the basis weight and the water weight. -/
def moiStage (floor : Nat) (bw : Reading) (water : Option (Nat × Bool)) : Reading :=
  match bw, water with
  | .valid v _, some (w, clamped) =>
    if floor ≤ v && 0 < v then
      let m := capQuotient 9999 (w * 10000) v
      .valid m.1 (clamped || m.2)
    else .invalid
  | _, _ => .invalid

/-- R65: DRY, VALID exactly when MOI is VALID. -/
def dryStage (moi bw : Reading) (water : Option (Nat × Bool)) : Reading :=
  match moi, bw, water with
  | .valid _ _, .valid v bwClamped, some (w, clamped) =>
    .valid (v - w) (bwClamped || clamped || v < w)
  | _, _, _ => .invalid

/-- R66: the caliper stage. -/
def calStage (r : SampleRecord) (refs : References) (table : Table) : Reading :=
  if r.flags.satCl then .invalid
  else
    let f := countRate r.counts.clc r.gateTime
    let d := cap 65535 (f.1 - refs.f0)
    let c := lookup table d.1
    .valid c.1 (f.2 || f.1 < refs.f0 || d.2 || c.2)

/-- R60: the gate check fails. -/
def gateFails (f : SampleFlags) : Bool := f.shortGate || f.longGate || f.shutterUnconfirmed

/-- R59, R60: the moisture part whose stages give MOI and DRY, when those channels are present. -/
def moisturePresent (g : GradeRecord) (refs : References) : Option MoisturePart :=
  if refs.q0 == 0 then none else g.moisture

/-- R59: the caliper table, when CAL is present. -/
def caliperPresent (g : GradeRecord) (refs : References) : Option Table :=
  if refs.f0 == 0 then none else g.caliper

/-- R59 to R66: the four channels of a slot result under a grade. -/
def convertUnder (g : GradeRecord) (r : SampleRecord) (refs : References) : PerChannel Reading :=
  let fails := gateFails r.flags
  let bw := if fails then .invalid else bwStage r refs g.bwTable
  let moisture := moisturePresent g refs
  let water := moisture.bind fun m => if fails then none else waterStage r refs m.table
  let moi := match moisture with
    | none => .absent
    | some m => if fails then .invalid else moiStage m.floor bw water
  let dry := match moisture with
    | none => .absent
    | some _ => if fails then .invalid else dryStage moi bw water
  let cal := match caliperPresent g refs with
    | none => .absent
    | some t => if fails then .invalid else calStage r refs t
  { bw := bw, moi := moi, cal := cal, dry := dry }

/-- R58: the channels of a job's slot result. A job always has a grade (R57); without one nothing is measured (log 27). -/
def convert (j : SampleJob) : PerChannel Reading :=
  match j.grade with
  | some g => convertUnder g j.record j.refs
  | none => { bw := .invalid, moi := .absent, cal := .absent, dry := .absent }

/-- R58, R59: the flags of a job's slot result. -/
def resultFlags (j : SampleJob) : ResultFlags := { gate := j.record.flags, notStd := j.refs.r0 == 0 }

/-! ## The arbiter (R49, R50, R57) -/

/-- R57: the grade record a sample job reads: the scan's slot, or the active slot for a POINT record. -/
def gradeOfRecord (s : State) (r : SampleRecord) : Option GradeRecord :=
  match r.kind with
  | .point => activeGrade s
  | .scan | .probe => gradeAt s ((contextOf s r.number).bind ScanContext.slot)

/-- R49, R57: take the sample job at the head of the queue, fixing what it reads; the held record joins the queue (R42). -/
def takeSample (r : SampleRecord) (rest : List SampleRecord) (s : State) : State :=
  (s.modCve fun _ =>
      { job := some (.sample { record := r, grade := gradeOfRecord s r, refs := s.sdu.refs, stale := false })
        lastServed := .sample }).modGtu fun g => joinHeld { g with queue := rest }

/-- R49, R97: take the chunk a pass offers. -/
def takeChunk (p : PassRecord) (s : State) : State :=
  (s.modCve fun _ =>
      { job := some (.chunk { scan := p.scan, step := p.step, firstZone := p.nextZone })
        lastServed := .pass }).modPfb fun b => { b with pass := some { p with offered := false } }

/-- R49: take the posted evaluation; last served stays as it was. -/
def takeEvaluation (dark air : PhaseSums) (s : State) : State :=
  (s.modCve fun c => { c with job := some (.evaluation { dark := dark, air := air, stale := false }) }).modSdu
    fun u => { u with posted := none }

/-- R97: the chunk that waits, if the pass offers one. -/
def offeredPass (s : State) : Option PassRecord := s.pfb.pass.filter PassRecord.offered

/-- R50: the arbiter's choice while the engine is free. -/
def arbiterChoice (s : State) : State :=
  match s.sdu.posted, s.gtu.queue, offeredPass s with
  | some (dark, air), _, _ => takeEvaluation dark air s
  | none, r :: rest, some p =>
    match s.cve.lastServed with
    | .sample => takeChunk p s
    | .pass => takeSample r rest s
  | none, r :: rest, none => takeSample r rest s
  | none, [], some p => takeChunk p s
  | none, [], none => s

/-- R50: the arbiter acts when the engine is free. -/
def arbitrate (s : State) : State :=
  match s.cve.job with
  | some _ => s
  | none => arbiterChoice s

end Sys2Proof.Machine
end

