-- ==== Sys2Proof/Machine/Motion.lean ====
section
/-! DEFINITION. Changes of traverse state and the orders that make them: aborts, park, halt and scan orders, dwell and point entry, entry into FAULTED, and the source shutter that follows them (01, 06). -/

namespace Sys2Proof.Machine

/-! ## Changing the traverse state -/

/-- R46, R141: on leaving POINT the point timer stops, the open point gate is discarded and the watch is dropped. -/
def leavePoint (s : State) : State :=
  (s.modGtu fun g => { g with pointTimer := none }).modBkm fun b =>
    { b with watch := .off, runCount := 0 }

/-- What a change of state does to the traverse controller itself: R4 zeroes buffer and duty on entry into a resting state, R7 clears the stall timer when the loop starts or stops, the homing timer stops outside HOMING, and R22 clears the dwell hold on leaving PARKED. -/
def enterState (new : TraverseState) (t : Traverse) : Traverse :=
  { t with
    state := new
    buffer := if forcesZero new then 0 else t.buffer
    duty := if forcesZero new then 0 else t.duty
    stallMs := if loopRuns t.state == loopRuns new then t.stallMs else 0
    homingTimer := if isHoming new then t.homingTimer else none
    dwellHold := if t.state == .parked && new != .parked then false else t.dwellHold }

/-- Move the traverse into a state. Leaving SCANNING idles the comparator (R34); leaving POINT ends the point gates (R46). -/
def moveTo (new : TraverseState) (s : State) : State :=
  let s1 :=
    if isScanning s.trc.state && !isScanning new then s.modGtu fun g => { g with comparator := none }
    else s
  let s2 := if isPoint s.trc.state && !isPoint new then leavePoint s1 else s1
  s2.modTrc (enterState new)

/-! ## Aborts (R28, R132) -/

/-- R139: drop the watch when it is on one of these scans. -/
def dropWatch (numbers : List Nat) (s : State) : State :=
  match s.bkm.watch with
  | .scan n _ =>
    if numbers.contains n then s.modBkm fun b => { b with watch := .off, runCount := 0 } else s
  | _ => s

/-- R28, R44, R96, R139: the abort of the open scan: comparator idle, open gate discarded, records purged, context, accumulator and pin released, watch dropped. -/
def abortOpenScan (s : State) : State :=
  match s.gtu.openScan with
  | none => s
  | some o =>
    dropWatch [o.number]
      (removeScans [o.number]
        (purge [o.number] (s.modGtu fun g => { g with comparator := none, openScan := none })))

/-- R132, R51: mark an evaluation the engine runs so that its result is discarded. -/
def staleEvaluation (s : State) : State :=
  s.modCve fun c =>
    match c.job with
    | some (.evaluation e) => { c with job := some (.evaluation { e with stale := true }) }
    | _ => c

/-- R132: the abort of a dwell: sub-gates stopped, evaluation withdrawn or marked, dwell record discarded. The caller moves the traverse. -/
def abortDwell (s : State) : State :=
  match s.sdu.dwell with
  | none => s
  | some _ =>
    (staleEvaluation (s.modGtu fun g => { g with subGateTimer := none })).modSdu fun u =>
      { u with dwell := none, posted := none }

/-! ## Entries -/

/-- R9, R34: entry into SCANNING from P. -/
def enterScanning (s : State) : State :=
  (moveTo (.scanning .fwd .turn true false) s).modGtu fun g =>
    { g with comparator := some { direction := .fwd, target := 0 } }

/-- Sums of a phase that has taken no sub-gate. -/
def PhaseSums.zero : PhaseSums := { time := 0, bw := 0, ma := 0, mr := 0, cl := 0 }

/-- R124, R125: the record of a dwell at its entry; the dark shutter mark is set if the confirm shows open already. -/
def DwellRecord.fresh (confirmOpen : Bool) : DwellRecord :=
  { step := .dark, taken := 0, dark := .zero, air := .zero, darkShutter := confirmOpen
    satBw := false, satMa := false, satMr := false, satCl := false }

/-- R22, R47, R124: entry into DWELL, which starts the DARK phase at the gate unit. -/
def enterDwell (resumeScan : Bool) (s : State) : State :=
  (capture
    ((moveTo (.dwell resumeScan) s).modSdu fun u =>
      { u with dwell := some (.fresh u.confirm.level) })).modGtu fun g =>
    { g with subGateTimer := some 0 }

/-- R114: mark a POINT sample job the engine runs as stale. -/
def stalePointJob (s : State) : State :=
  s.modCve fun c =>
    match c.job with
    | some (.sample j) =>
      if j.record.kind == .point then { c with job := some (.sample { j with stale := true }) } else c
    | _ => c

/-- R46, R114, R141: entry into POINT. -/
def enterPoint (position periodMs : Nat) (s : State) : State :=
  let moved := moveTo (.point position periodMs) s
  let cleared := capture
    (moved.modGtu fun g =>
      { removeRecords (fun r => r.kind == .point) g with pointSequence := 0, pointTimer := some 0 })
  ((stalePointJob cleared).modPfb fun p => { p with trend := [] }).modBkm fun b =>
    { b with watch := .point, runCount := 0 }

/-- R22, R123: a pending standardize is presented and may be taken. R188 defers it while a reset is pending. -/
def dwellReady (s : State) : Bool :=
  s.sdu.wanted && s.bkm.state != .probing && s.plx.interlock && !s.trc.dwellHold
    && !s.slp.resetPending

/-! ## Orders from other blocks (R25 to R27) -/

/-- R25: a park order. The order of a declaration is declarationPark, which R145 qualifies. -/
def parkOrder (s : State) : State :=
  match s.trc.state with
  | .scanning _ _ _ _ => moveTo (.transit .park .noAction) (abortOpenScan s)
  | .point _ _ => moveTo (.transit .park .noAction) s
  | .transit _ .scan | .transit _ .point => moveTo (.transit .park .noAction) s
  | .dwell _ => moveTo (.dwell false) s
  | .transit _ .noAction | .parked | .stopped | .homing _ | .halting | .faulted _ => s

/-- R26: a halt order. -/
def haltOrder (s : State) : State :=
  match s.trc.state with
  | .homing _ | .transit _ _ | .scanning _ _ _ _ | .point _ _ => moveTo .halting (abortOpenScan s)
  | .dwell _ => moveTo .parked (abortDwell s)
  | .stopped | .parked | .halting | .faulted _ => s

/-- R27: a scan order. R188 defers it while a reset is pending. -/
def scanOrder (s : State) : State :=
  match s.trc.state with
  | .parked => if s.slp.resetPending then s else enterScanning s
  | _ => s

/-! ## Entry into FAULTED (R23) -/

/-- R158: the alarm of a fault kind. -/
def faultAlarm : FaultKind → AlarmKind
  | .driveCurrent => .driveCurrent
  | .driveStall => .driveStall
  | .overtravel => .overtravel
  | .homingFailed => .homingFailed

/-- R14, R23: homed after a fault: false for OVERTRAVEL and HOMING_FAILED, and for any fault during homing. -/
def homedAfterFault (kind : FaultKind) (t : Traverse) : Bool :=
  match kind with
  | .overtravel | .homingFailed => false
  | .driveCurrent | .driveStall => t.homed && !isHoming t.state

/-- R23: entry into FAULTED. -/
def enterFaulted (kind : FaultKind) (s : State) : State :=
  let homed := homedAfterFault kind s.trc
  let moved := (moveTo (.faulted kind) (abortDwell (abortOpenScan s))).modTrc fun t =>
    { t with homed := homed }
  raiseAlarm (faultAlarm kind) moved.trc.position moved

/-! ## The source shutter (R134 to R136) -/

/-- R134: the condition under which the shutter is commanded open. -/
def shutterWanted (s : State) : Bool :=
  s.plx.interlock
    && (isScanning s.trc.state || isPoint s.trc.state || (isDwell s.trc.state && dwellPhaseAir s))

/-- R126, R47: the start of the AIR phase of a dwell that waits in OPENING. -/
def startAir (s : State) : State :=
  match s.sdu.dwell with
  | some d =>
    if d.step == .opening then
      (capture (s.modSdu fun u => { u with dwell := some { d with step := .air } })).modGtu fun g =>
        { g with subGateTimer := some 0 }
    else s
  | none => s

/-- R135: command and confirm have come to agree: AGREED, the SHUTTER condition ends, and a waiting AIR phase starts. -/
def shutterAgrees (s : State) : State :=
  let s1 := endAlarm .shutter (s.modSdu fun u => { u with supervision := .agreed })
  if s1.sdu.shutterOpen then startAir s1 else s1

/-- R134, R135: the command follows its condition; a change restarts the window and may find the confirm agreeing at once. -/
def shutterFollow (s : State) : State :=
  if shutterWanted s == s.sdu.shutterOpen then s
  else
    let s1 := s.modSdu fun u =>
      { u with shutterOpen := shutterWanted s, supervision := .settling, window := 0 }
    if s1.sdu.confirm.level == s1.sdu.shutterOpen then shutterAgrees s1 else s1

/-- R136: what a failure does to the traverse when the command was open. -/
def shutterFailMove (s : State) : State :=
  match s.trc.state with
  | .dwell _ => (moveTo .parked (abortDwell s)).modTrc fun t => { t with dwellHold := true }
  | .scanning _ _ _ _ | .point _ _ => parkOrder s
  | _ => s

/-- R136: a failure of the supervision. With the command open the head leaves the states in which it opens, and the command closes at that change, before any test that the new state brings. -/
def shutterFails (s : State) : State :=
  let s1 := raiseAlarm .shutter (if s.sdu.shutterOpen then 1 else 0)
    (s.modSdu fun u => { u with supervision := .failed })
  if s.sdu.shutterOpen then shutterFollow (shutterFailMove s1) else s1

end Sys2Proof.Machine
end

