-- ==== Sys2Proof/Machine/Breaks.lean ====
section
/-! DEFINITION. The break monitor: declaration, gauge loss, probe reports, and the tests made when the traverse or a break condition changes (07). -/

namespace Sys2Proof.Machine

/-- The recovery delay in force in µs. -/
def recoveryUs (s : State) : Nat := s.bkm.recoveryDelay * 1000000

/-! ## The declaration (R145) -/

/-- R106: the profile builder abandons every scan it has not published. The gate unit purges their records, the working set is restored and re-seed is set. -/
def abandonAll (s : State) : State :=
  let numbers := s.pfb.contexts.map ScanContext.number
  let s1 := removeScans numbers (purge numbers s)
  setReseed (nextMark s1) (s1.modPfb fun p => { p with pass := none, working := p.published })

/-- R145: what a cause brings to the declaration. -/
structure Declared where
  kind : CauseKind
  origin : Origin
  scan : Nat
  zone : Option Nat
  detail : Nat

/-- R145 step 1: the break cause record, filled only if it is empty. -/
def fillCause (d : Declared) (s : State) : State :=
  s.modBkm fun b =>
    match b.cause with
    | some _ => b
    | none =>
      { b with
        cause := some
          { kind := d.kind, origin := d.origin, scan := d.scan, position := s.trc.position
            zone := d.zone, detail := d.detail
            gradeCode := (activeGrade s).map GradeRecord.code } }

/-- R145 steps 2 and 3: BROKEN, failed probes cleared from CLEAR, watch dropped. -/
def breakDown (s : State) : State :=
  s.modBkm fun b =>
    { b with
      state := .broken
      failedProbes := if b.state == .clear then 0 else b.failedProbes
      watch := .off, runCount := 0 }

/-- R145: the detail of the SHEET_BREAK raise. -/
def causeDetail : CauseKind → Int
  | .gaugeLoss => 1
  | .edgeCollapse => 2
  | .input => 3

/-- R145 step 5, R25: the park order of a declaration. DESIGN CHOICE: whether it acts in TRANSIT is left open, since the two rules disagree there; safe (log 41). -/
def declarationPark (s : State) : State :=
  match s.trc.state with
  | .transit _ _ => if Config.declarationTurnsTransit then parkOrder s else s
  | _ => parkOrder s

/-- R145: a declaration, as one event. -/
def declareBreak (d : Declared) (s : State) : State :=
  raiseAlarm .sheetBreak (causeDetail d.kind) (declarationPark (abandonAll (breakDown (fillCause d s))))

/-- R145: the zone containing the head's position, absent outside the window or without a geometry. -/
def headZone (s : State) : Option Nat :=
  s.gtu.geometry.bind fun g =>
    if g.inWindow s.trc.position then some (g.zoneAt s.trc.position) else none

/-- R143, R144: an INPUT cause from a line; BROKEN leaves the break as it stands. -/
def inputCause (line : Nat) (s : State) : State :=
  if s.bkm.state == .broken then s
  else
    declareBreak
      { kind := .input, origin := .noOrigin, scan := s.pfb.scanNumber, zone := headZone s, detail := line } s

/-- R142, R144: an EDGE_COLLAPSE report; it declares in CLEAR only. -/
def edgeCollapse (scan width : Nat) (s : State) : State :=
  if s.bkm.state == .clear then
    declareBreak { kind := .edgeCollapse, origin := .scan, scan := scan, zone := none, detail := width } s
  else s

/-! ## Tests after a change (R22, R146 to R148, R153) -/

/-- R152, R153: back to WAITING; the delay runs at once if the traverse is PARKED at that moment. -/
def returnToWaiting (s : State) : State :=
  s.modBkm fun b =>
    { b with
      state := .waiting (if s.trc.state == .parked then .running (recoveryUs s) else .notStarted) }

/-- R153: probing has lost its scans. While a reset is pending the scan order is deferred (R188), so the traverse has not left SCANNING. -/
def probingLostTest (s : State) : State :=
  if s.bkm.state == .probing && !isScanning s.trc.state
      && !s.pfb.contexts.any (fun c => c.kind == .probe) && !s.slp.resetPending then
    returnToWaiting s
  else s

/-- R22: a pending standardize is taken in PARKED. -/
def dwellTest (s : State) : State :=
  if s.trc.state == .parked && dwellReady s then enterDwell false s else s

/-- R146: BROKEN moves to WAITING. -/
def waitingTest (s : State) : State :=
  if s.bkm.state == .broken && s.trc.state == .parked && !s.bkm.levelCondition then
    s.modBkm fun b => { b with state := .waiting (.running (recoveryUs s)) }
  else s

/-- R147: a delay not started begins when the traverse is PARKED. -/
def delayTest (s : State) : State :=
  if s.bkm.state == .waiting .notStarted && s.trc.state == .parked then
    s.modBkm fun b => { b with state := .waiting (.running (recoveryUs s)) }
  else s

/-- R148: WAITING moves to PROBING and orders a scan. -/
def probingTest (s : State) : State :=
  if s.bkm.state == .waiting .expired && s.trc.state == .parked && s.plx.interlock
      && s.grs.active.isSome then
    scanOrder (s.modBkm fun b => { b with state := .probing })
  else s

/-- The tests made against the traverse state an event leaves behind, a dwell before the break moves on (R146, R148, R153; log 15). -/
def parkTests (s : State) : State :=
  probingTest (delayTest (waitingTest (dwellTest (probingLostTest s))))

/-- The tests, then the shutter command, which changes in the same event (R134). -/
def motionTests (s : State) : State := shutterFollow (parkTests s)

/-! ## Gauge loss (R139 to R141) -/

/-- R139: the watch region: zones first + G to last − G, none when it is empty. -/
def watchRegion (edges : Nat × Nat) (guardZones : Nat) : Option (Nat × Nat) :=
  if edges.1 + 2 * guardZones ≤ edges.2 then some (edges.1 + guardZones, edges.2 - guardZones) else none

/-- R139: the watch as a scan start sets it up. -/
def setUpWatch (scan : Nat) (kind : ScanKind) (slot : Option Nat) (s : State) : State :=
  s.modBkm fun b =>
    { b with
      runCount := 0
      watch :=
        match kind, b.state, s.pfb.publishedEdges with
        | .normal, .clear, some edges =>
          .scan scan (watchRegion edges (((gradeAt s slot).map GradeRecord.edgeGuard).getD 0))
        | _, _, _ => .off }

/-- R140: the run count after a counted result, by the machine-run gate and the BW reading. -/
def countedRun (s : State) (g : GradeRecord) (bw : Reading) : Nat :=
  if machineRunPresent s.plx.inputs && !machineRunActive s.plx.inputs then 0
  else
    match bw with
    | .valid v _ => if v < g.breakThreshold then s.bkm.runCount + 1 else 0
    | _ => s.bkm.runCount

/-- R140, R141: count a result; the one whose increment brings the run to the break run or beyond declares GAUGE_LOSS (log 14). The detail is the run counted, also where it is above the break run in force (log 40). -/
def countResult (g : GradeRecord) (bw : Reading) (origin : Origin) (scan : Nat) (zone : Option Nat)
    (s : State) : State :=
  let run := countedRun s g bw
  let s1 := s.modBkm fun b => { b with runCount := run }
  if s.bkm.runCount < run && g.breakRun ≤ run then
    declareBreak { kind := .gaugeLoss, origin := origin, scan := scan, zone := zone, detail := run } s1
  else s1

/-- R140: whether the watch counts a SCAN result at this slot. -/
def watchCounts (s : State) (scan slot : Nat) : Bool :=
  match s.bkm.watch, s.gtu.geometry with
  | .scan n (some (first, last)), some g =>
    n == scan && s.bkm.state == .clear && first * g.S ≤ slot && slot ≤ last * g.S + (g.S - 1)
  | _, _ => false

/-- R140: a SCAN result reaches the watch. -/
def watchScanResult (r : SampleRecord) (bw : Reading) (s : State) : State :=
  let slot := r.slot.getD 0
  match gradeAt s ((contextOf s r.number).bind ScanContext.slot) with
  | some g =>
    if watchCounts s r.number slot then
      countResult g bw .scan r.number (s.gtu.geometry.map fun geo => slot / geo.S) s
    else s
  | none => s

/-- R141: a POINT result that is not stale reaches the watch; it is counted in POINT and CLEAR (log 38). -/
def watchPointResult (r : SampleRecord) (bw : Reading) (s : State) : State :=
  match s.trc.state, activeGrade s with
  | .point position _, some g =>
    if s.bkm.state == .clear then
      countResult g bw .point r.number (s.gtu.geometry.map fun geo => geo.zoneAt position) s
    else s
  | _, _ => s

/-- R67 step 2: the BW reading of a result reaches the break monitor. -/
def watchResult (j : SampleJob) (bw : Reading) (s : State) : State :=
  match j.record.kind with
  | .scan => watchScanResult j.record bw s
  | .probe => s
  | .point => if j.stale then s else watchPointResult j.record bw s

/-! ## Probe reports (R151, R152) -/

/-- R151: record a probe report as the last probe result. -/
def recordProbe (scan width minimum : Nat) (s : State) : State :=
  s.modBkm fun b =>
    { b with
      lastProbe := some { scan := scan, width := width, minimum := minimum, sheetFound := minimum ≤ width } }

/-- R151: the end of a break. -/
def breakEnds (s : State) : State :=
  endAlarm .sheetBreak (s.modBkm fun b => { b with state := .clear })

/-- R152: a probe without a sheet: counted, back to WAITING, and a park order. -/
def noSheet (s : State) : State :=
  parkOrder (returnToWaiting (s.modBkm fun b => { b with failedProbes := min 255 (b.failedProbes + 1) }))

/-- R151, R152: a probe report; in any state other than PROBING it has no effect. -/
def probeReport (scan width minimum : Nat) (s : State) : State :=
  if s.bkm.state == .probing then
    let s1 := recordProbe scan width minimum s
    if minimum ≤ width then breakEnds s1 else noSheet s1
  else s

/-- R147, R150: the recovery delay ends. -/
def expireDelay (s : State) : State := s.modBkm fun b => { b with state := .waiting .expired }

end Sys2Proof.Machine
end

