-- ==== Sys2Proof/Machine/Profiles.lean ====
section
/-! DEFINITION. The profile builder: scan starts and ends, completion, the steps of a pass, publication, and the completions of sample jobs and pass chunks (05, 03). -/

namespace Sys2Proof.Machine

/-! ## Scan start (R81, R90, R92, R93) -/

/-- R90: the scan number moves on; at the wrap the summary queue is emptied. A pass from before the wrap may still append its summary afterwards (log 39). -/
def countScan (s : State) : State :=
  s.modPfb fun p =>
    { p with
      scanNumber := nextScanNumber p.scanNumber
      starts := p.starts + 1
      summaries := if p.scanNumber == Config.scanNumberMax then [] else p.summaries }

/-- R103: the mark of the scan that has just been numbered. -/
def thisMark (s : State) : Mark := { scan := s.pfb.scanNumber, order := s.pfb.starts }

/-- R81: a staged slot becomes active and asks for re-seed. -/
def takeStaged (s : State) : State :=
  match s.grs.staged with
  | none => s
  | some slot =>
    setReseed (thisMark s) (s.modGrs fun g => { g with active := some slot, staged := none })

/-- R78: the pin of the scan that starts, naming the slot it runs under. -/
def addPin (s : State) : State :=
  s.modGrs fun g => { g with pins := g.pins ++ [{ scan := s.pfb.scanNumber, slot := g.active }] }

/-- R92 step 3: the kind of the scan that starts. -/
def chooseKind (s : State) : ScanKind :=
  if accHeld s .acc0 && accHeld s .acc1 then .skipped
  else
    match s.bkm.state with
    | .broken | .waiting _ => .skipped
    | .probing => .probe
    | .clear => .normal

/-- R92 step 4: the free accumulator with the lower index, for a scan that is not SKIPPED. -/
def chooseAcc (kind : ScanKind) (s : State) : Option AccId :=
  match kind with
  | .skipped => none
  | .normal | .probe => if accHeld s .acc0 then some .acc1 else some .acc0

/-- R94: clear the accumulator that has been taken. -/
def clearAcc (acc : Option AccId) (s : State) : State :=
  match acc with
  | none => s
  | some a =>
    let slots := (s.gtu.geometry.map Geometry.slotCount).getD 0
    s.modPfb fun p => p.withEntries a (List.replicate slots .cleared)

/-- R92 step 5: the context of the scan that starts. -/
def addContext (kind : ScanKind) (direction : Direction) (acc : Option AccId) (s : State) : State :=
  s.modPfb fun p =>
    { p with
      contexts := p.contexts ++
        [{ number := p.scanNumber, order := p.starts, kind := kind, direction := direction
           slot := s.grs.active, accumulator := acc, stage := .gating, gateNotice := false }] }

/-- R92: a scan start at the profile builder, with the SCAN_SKIPPED alarm of R93 when both accumulators are held. -/
def profileScanStart (direction : Direction) (s : State) : State :=
  let s1 := addPin (takeStaged (countScan s))
  let kind := chooseKind s1
  let acc := chooseAcc kind s1
  let bothHeld := accHeld s1 .acc0 && accHeld s1 .acc1
  let s2 := addContext kind direction acc (clearAcc acc s1)
  let s3 := if bothHeld then raiseFor .scanSkipped s2.pfb.scanNumber s2.pfb.scanNumber s2 else s2
  setUpWatch s3.pfb.scanNumber kind s3.grs.active
    (s3.modGtu fun g => { g with openScan := some { number := s3.pfb.scanNumber, kind := kind } })

/-! ## Scan end and completion (R93, R95, R97) -/

/-- R93, R95: the scan end: a NORMAL or PROBE context becomes ENDED; a SKIPPED one is removed with its pin. -/
def profileScanEnd (scan : Nat) (s : State) : State :=
  match contextOf s scan with
  | none => s
  | some c =>
    if c.kind == .skipped then removeScans [scan] s
    else
      s.modPfb fun p =>
        { p with contexts := p.contexts.map fun x => if x.number == scan then { x with stage := .ended } else x }

/-- R45: the gate unit's notice for every ended scan of which no record remains in its keeping. -/
def gateNotices (s : State) : State :=
  s.modPfb fun p =>
    { p with
      contexts := p.contexts.map fun c =>
        if c.stage == .ended && !recordsRemain s.gtu c.number then { c with gateNotice := true } else c }

/-- R95: a sample job of this scan is in the engine. -/
def jobOutstanding (s : State) (scan : Nat) : Bool :=
  match s.cve.job with
  | some (.sample j) => ofScans [scan] j.record
  | _ => false

/-- R95: an ended scan with the gate notice and no job outstanding becomes COMPLETE. -/
def completeScans (s : State) : State :=
  s.modPfb fun p =>
    { p with
      contexts := p.contexts.map fun c =>
        if c.stage == .ended && c.gateNotice && !jobOutstanding s c.number then { c with stage := .complete }
        else c }

/-- Sums of a channel before any zone is counted. -/
def RunningSums.zero : RunningSums :=
  { n := 0, sum := 0, sumSq := 0, least := none, greatest := none, clampedSlots := 0 }

/-- R97: the pass record at its creation, its first chunk offered. -/
def PassRecord.fresh (scan : Nat) : PassRecord :=
  { scan := scan, step := .assembly, nextZone := 0, offered := true, zones := []
    edges := { span := none, width := 0, holes := 0 }, sums := .const .zero, reseeded := false }

/-- R97: the pass of the first COMPLETE scan, in the order of starts, begins when no pass is running. DESIGN CHOICE: also before an older scan that is still ENDED, so that the newer scan may publish first; unsafe (log 37). -/
def beginPass (s : State) : State :=
  match s.pfb.pass, s.pfb.contexts.find? (fun c => c.stage == .complete) with
  | none, some c =>
    s.modPfb fun p =>
      { p with
        pass := some (.fresh c.number)
        contexts := p.contexts.map fun x => if x.number == c.number then { x with stage := .inPass } else x }
  | _, _ => s

/-- Notices, completions and the beginning of a pass, in the event that brings them. -/
def passTests (s : State) : State := beginPass (completeScans (gateNotices s))

/-- The arbiter's choice at the end of an event (R50), and the notice of R45 for a record it takes. -/
def engineTests (s : State) : State := gateNotices (arbitrate s)

/-- R97: a pass ends: record discarded, context, accumulator and pin released. -/
def endPass (scan : Nat) (s : State) : State :=
  removeScans [scan] (s.modPfb fun p => { p with pass := none })

/-! ## Step A, assembly (R98) -/

/-- R98: the zone's channel when the scan's grade lacks the part that gives it. -/
def channelLacking (g : GradeRecord) : Channel → Bool
  | .bw => false
  | .moi | .dry => g.moisture.isNone
  | .cal => g.caliper.isNone

/-- The value of a VALID reading. -/
def validValue : Reading → Option Nat
  | .valid v _ => some v
  | _ => none

/-- R98: one channel of a zone from the slot entries of the zone. -/
def assembleChannel (g : GradeRecord) (slots : List SlotEntry) (ch : Channel) : ZoneReading :=
  let present := slots.filter fun e => !e.missed
  if channelLacking g ch || (!present.isEmpty && present.all fun e => e.readings.get ch == .absent) then
    .absent
  else
    let values := present.filterMap fun e => validValue (e.readings.get ch)
    if (slots.length + 1) / 2 ≤ values.length && 0 < values.length then
      .valid (nearestUp values.sum values.length)
    else .invalid

/-- The slot entries of a zone: slots zS to zS + S − 1. -/
def zoneSlots (S : Nat) (entries : List SlotEntry) (z : Nat) : List SlotEntry :=
  (entries.drop (z * S)).take S

/-- R98: one zone of the zone table. -/
def assembleZone (g : GradeRecord) (S : Nat) (entries : List SlotEntry) (z : Nat) : ZoneEntry :=
  { readings := .build (assembleChannel g (zoneSlots S entries z)), onSheet := false }

/-- R98: the clamped slots of a channel among some slot entries. -/
def clampedIn (ch : Channel) (slots : List SlotEntry) : Nat :=
  slots.countP fun e => readingClamped (e.readings.get ch)

/-- The zones a chunk covers: at most 16 from its first zone. -/
def chunkRange (Z first : Nat) : List Nat := (List.range (min Config.chunkZones (Z - first))).map (first + ·)

/-- R97: the pass after a chunk of a chunked step: the next chunk of the step, or the step that follows, offered. -/
def advanceTo (Z : Nat) (following : PassStep) (p : PassRecord) : PassRecord :=
  let next := p.nextZone + Config.chunkZones
  if next < Z then { p with nextZone := next, offered := true }
  else { p with step := following, nextZone := 0, offered := true }

/-- R98: a chunk of step A. -/
def stepA (g : GradeRecord) (geo : Geometry) (entries : List SlotEntry) (p : PassRecord) : PassRecord :=
  let zones := chunkRange geo.Z p.nextZone
  let slots := (entries.drop (p.nextZone * geo.S)).take (zones.length * geo.S)
  advanceTo geo.Z .edges
    { p with
      zones := p.zones ++ zones.map (assembleZone g geo.S entries)
      sums := .build fun ch =>
        let r := p.sums.get ch
        { r with clampedSlots := r.clampedSlots + clampedIn ch slots } }

/-! ## Step B, edges (R99) -/

/-- R99: a zone is on-sheet when its BW is VALID and at least the edge threshold. -/
def zoneOnSheet (threshold : Nat) (z : ZoneEntry) : Bool :=
  match z.readings.bw with
  | .valid v => threshold ≤ v
  | _ => false

/-- The indices at which a zone table has a property, in increasing order. -/
def zonesWhere (test : ZoneEntry → Bool) (zones : List ZoneEntry) : List Nat :=
  (zones.zipIdx.filter fun x => test x.1).map Prod.snd

/-- R99: first and last on-sheet zone. -/
def spanOf (onSheet : List Nat) : Option (Nat × Nat) :=
  match onSheet.head?, onSheet.getLast? with
  | some first, some last => some (first, last)
  | _, _ => none

/-- R99: off-sheet with a VALID BW. -/
def offSheetValid (z : ZoneEntry) : Bool :=
  !z.onSheet && match z.readings.bw with
    | .valid _ => true
    | _ => false

/-- R99: the holes, lowest first. -/
def holesOf (span : Option (Nat × Nat)) (zones : List ZoneEntry) : List Nat :=
  match span with
  | none => []
  | some (first, last) => (zonesWhere offSheetValid zones).filter fun z => first < z && z < last

/-- R99: step B over the whole zone table. -/
def stepB (g : GradeRecord) (p : PassRecord) : PassRecord :=
  let zones := p.zones.map fun z => { z with onSheet := zoneOnSheet g.edgeThreshold z }
  let span := spanOf (zonesWhere ZoneEntry.onSheet zones)
  { p with
    step := .statistics, nextZone := 0, offered := true, zones := zones
    edges :=
      { span := span
        width := match span with
          | some (first, last) => last - first + 1
          | none => 0
        holes := (holesOf span zones).length } }

/-- R87, R99: the minimum sheet zone count in force for a scan. DESIGN CHOICE: where the grade's minimum exceeds Z the sheet is judged by its width against Z, not by every zone being on-sheet; unsafe (log 42). -/
def minimumFor (g : GradeRecord) (Z : Nat) : Nat := min g.minSheetZones Z

/-! ## Step C, statistics (R101) -/

/-- R99: a counted zone. -/
def countedZone (p : PassRecord) (guardZones z : Nat) : Bool :=
  match p.edges.span with
  | none => false
  | some (first, last) =>
    first + guardZones ≤ z && z + guardZones ≤ last && (p.zones[z]?).any ZoneEntry.onSheet

/-- R101: the sums after one counted zone with a VALID value; extremes keep the lowest zone on a tie. -/
def addValue (v z : Nat) (r : RunningSums) : RunningSums :=
  { r with
    n := r.n + 1, sum := r.sum + v, sumSq := r.sumSq + v * v
    least := match r.least with
      | some (m, k) => if v < m then some (v, z) else some (m, k)
      | none => some (v, z)
    greatest := match r.greatest with
      | some (m, k) => if m < v then some (v, z) else some (m, k)
      | none => some (v, z) }

/-- The reading of one zone and channel in the zone table. -/
def zoneReading (p : PassRecord) (ch : Channel) (z : Nat) : ZoneReading :=
  match p.zones[z]? with
  | some e => e.readings.get ch
  | none => .invalid

/-- R101: one zone of step C for one channel. -/
def addZone (p : PassRecord) (guardZones : Nat) (ch : Channel) (r : RunningSums) (z : Nat) : RunningSums :=
  match zoneReading p ch z with
  | .valid v => if countedZone p guardZones z then addValue v z r else r
  | _ => r

/-- R101: a chunk of step C. -/
def stepC (g : GradeRecord) (geo : Geometry) (p : PassRecord) : PassRecord :=
  advanceTo geo.Z .filter
    { p with
      sums := .build fun ch =>
        (chunkRange geo.Z p.nextZone).foldl (addZone p g.edgeGuard ch) (p.sums.get ch) }

/-- R101: V, the sum of squared deviations, formed exactly from the sums. -/
def sumOfSquares (r : RunningSums) (mean : Nat) : Nat :=
  ((r.sumSq : Int) - 2 * mean * r.sum + r.n * mean * mean).toNat

/-- R101: the figures of a channel with n ≥ 1. -/
def figuresOf (r : RunningSums) : ChannelFigures :=
  let mean := nearestUp r.sum r.n
  { mean := mean
    twoSigma := min 65535 (2 * isqrt (sumOfSquares r mean / r.n))
    least := (r.least.map Prod.fst).getD 0, leastZone := (r.least.map Prod.snd).getD 0
    greatest := (r.greatest.map Prod.fst).getD 0, greatestZone := (r.greatest.map Prod.snd).getD 0 }

/-- R101: the channel was ABSENT in every zone. -/
def absentEverywhere (p : PassRecord) (ch : Channel) : Bool :=
  p.zones.all fun z => z.readings.get ch == .absent

/-- R101: the statistics of a channel. -/
def channelSummary (p : PassRecord) (ch : Channel) : ChannelSummary :=
  let r := p.sums.get ch
  { status :=
      if 0 < r.n then .ok (figuresOf r) else if absentEverywhere p ch then .absent else .noData
    n := r.n, clampedSlots := r.clampedSlots }

/-! ## Step D, filter (R102, R103) -/

/-- R103: the pass of a scan is re-seeded: the flag is set and the scan started at or after scan A. -/
def passReseeded (reseed : Option Reseed) (order : Nat) : Bool :=
  match reseed with
  | some r => r.mark.order ≤ order
  | none => false

/-- R102: the filtered value of a zone and channel that is filtered. -/
def filteredValue (reseeded : Bool) (shift : Nat) (old : Option Nat) (v : Nat) : Nat :=
  match old with
  | some f => if reseeded || shift == 0 then v else ((f : Int) + floorShift shift ((v : Int) - (f : Int))).toNat
  | none => v

/-- R102: the last-scan status of a zone's channel. -/
def lastReading : ZoneReading → LastReading
  | .valid v => .valid v
  | .invalid => .invalid
  | .absent => .absent

/-- R102: one cell of the working set. -/
def filterCell (p : PassRecord) (shift : Nat) (z : Nat) (reading : ZoneReading) (c : ProfileCell) : ProfileCell :=
  let inSpan := match p.edges.span with
    | some (first, last) => first ≤ z && z ≤ last
    | none => false
  match inSpan, reading with
  | true, .valid v =>
    { filtered := some (filteredValue p.reseeded shift c.filtered v), age := 0, last := lastReading reading }
  | _, _ => { filtered := c.filtered, age := min 255 (c.age + 1), last := lastReading reading }

/-- R102: one zone of the working set. -/
def filterZone (p : PassRecord) (shift : Nat) (z : Nat) (old : ProfileZone) : ProfileZone :=
  match p.zones[z]? with
  | none => old
  | some e =>
    { cells := .build fun ch => filterCell p shift z (e.readings.get ch) (old.cells.get ch)
      onSheet := e.onSheet }

/-- R102: a chunk of step D on the working set. -/
def filterChunk (g : GradeRecord) (geo : Geometry) (p : PassRecord) (working : List ProfileZone) : List ProfileZone :=
  (chunkRange geo.Z p.nextZone).foldl (fun w z => w.modify z (filterZone p g.filterShift z)) working

/-! ## Step E, finish (R104, R105, R110, R111) -/

/-- R105: mean and target differ by more than the band. -/
def deviates (mean target band : Nat) : Bool := band < mean - target || band < target - mean

/-- R105: the detail of BW_DEVIATION when it is active. -/
def bwDeviation (g : GradeRecord) (bw : ChannelSummary) : Option Nat :=
  match bw.status with
  | .ok f => if g.bwBand != 0 && deviates f.mean g.bwTarget g.bwBand then some f.mean else none
  | _ => none

/-- R105: the detail of MOI_DEVIATION when it is active. -/
def moiDeviation (g : GradeRecord) (moi : ChannelSummary) : Option Nat :=
  match g.moisture, moi.status with
  | some m, .ok f => if m.band != 0 && deviates f.mean m.target m.band then some f.mean else none
  | _, _ => none

/-- R105: the detail of BW_SPREAD when it is active. -/
def bwSpread (g : GradeRecord) (bw : ChannelSummary) : Option Nat :=
  match bw.status with
  | .ok f => if g.spreadLimit != 0 && g.spreadLimit < f.twoSigma then some f.twoSigma else none
  | _ => none

/-- R105: the four scan alarm conditions with their details, in the order of the rule's table. -/
def scanConditions (g : GradeRecord) (p : PassRecord) : List (AlarmKind × Option Nat) :=
  [(.bwDeviation, bwDeviation g (channelSummary p .bw)),
   (.moiDeviation, moiDeviation g (channelSummary p .moi)),
   (.bwSpread, bwSpread g (channelSummary p .bw)),
   (.edgeHole, (holesOf p.edges.span p.zones).head?)]

/-- R105: raise an active condition for the pass's scan, end an inactive one. -/
def applyCondition (scan : Nat) (s : State) (c : AlarmKind × Option Nat) : State :=
  match c.2 with
  | some detail => raiseFor c.1 detail scan s
  | none => endAlarm c.1 s

/-- R110: the alarm kinds a summary names. -/
def kindsRaised (conditions : List (AlarmKind × Option Nat)) (entries : List SlotEntry) : List AlarmKind :=
  (conditions.filter fun c => c.2.isSome).map Prod.fst
    ++ (if entries.any SlotEntry.missed then [.sampleOverrun] else [])

/-- R110: the summary of a pass. -/
def buildSummary (s : State) (c : ScanContext) (g : GradeRecord) (entries : List SlotEntry) (p : PassRecord) : Summary :=
  { number := c.number, direction := c.direction, slot := c.slot, gradeCode := g.code
    reseeded := p.reseeded
    suspectBw := s.sdu.bw.suspect, suspectMoi := s.sdu.moi.suspect, suspectCal := s.sdu.cal.suspect
    edges := p.edges
    channels := .build (channelSummary p)
    kinds := kindsRaised (scanConditions g p) entries }

/-- R111: append a summary; of more than four the oldest is discarded. DESIGN CHOICE: nothing compares the numbers, so a summary stands where its pass publishes it, also when a newer scan has published first (log 37) and when its scan is from before the wrap (log 39); unsafe. -/
def appendSummary (x : Summary) (l : List Summary) : List Summary :=
  (l ++ [x]).drop (l.length + 1 - Config.summaryQueueDepth)

/-- R103, R104 step 5: re-seed after step E of a re-seeded pass. -/
def reseedAfter (order : Nat) (r : Option Reseed) : Option Reseed :=
  match r with
  | none => none
  | some r =>
    match r.later with
    | none => none
    | some m => if m.order ≤ order then none else some { mark := m, later := none }

/-- R120: the countdown at the notice of a published NORMAL pass, which may set the pending flag. -/
def countPublished (s : State) : State :=
  match s.sdu.countdown with
  | none => s
  | some n =>
    if n == 0 then s
    else
      let s1 := s.modSdu fun u => { u with countdown := some (n - 1) }
      if n == 1 then setWanted s1 else s1

/-- R104: step E finishes a NORMAL pass. -/
def finishPass (c : ScanContext) (g : GradeRecord) (entries : List SlotEntry) (p : PassRecord) (s : State) : State :=
  let summary := buildSummary s c g entries p
  let alarmed := (scanConditions g p).foldl (applyCondition c.number) s
  let published := alarmed.modPfb fun b =>
    { b with
      summaries := appendSummary summary b.summaries
      published := b.working, publishedScan := c.number, publishedEdges := p.edges.span
      reseed := if p.reseeded then reseedAfter c.order b.reseed else b.reseed }
  let told := countPublished (published.modPlx fun l => { l with scanToggle := !l.scanToggle })
  endPass c.number told

/-! ## Completion of a pass chunk (R70, R97, R100) -/

/-- R100: what follows step B: a PROBE pass ends and reports, a NORMAL pass too narrow ends and reports EDGE_COLLAPSE, any other goes on. DESIGN CHOICE: only the width is compared, so with the grade's minimum above Z a sheet of width Z counts as present with an off-sheet zone inside it, where R87 asks for every zone on-sheet; unsafe (log 42). -/
def afterEdges (c : ScanContext) (g : GradeRecord) (geo : Geometry) (p : PassRecord) (s : State) : State :=
  let width := p.edges.width
  let minimum := minimumFor g geo.Z
  if c.kind == .probe then probeReport c.number width minimum (endPass c.number s)
  else if width < minimum then edgeCollapse c.number width (endPass c.number s)
  else s.modPfb fun b => { b with pass := some p }

/-- R103: step D begins: whether the pass is re-seeded is fixed. -/
def beginFilter (c : ScanContext) (s : State) (p : PassRecord) : PassRecord :=
  if p.step == .filter then { p with reseeded := passReseeded s.pfb.reseed c.order } else p

/-- R70: run a chunk of the running pass and hand over its results. -/
def runChunk (c : ScanContext) (g : GradeRecord) (geo : Geometry) (p : PassRecord) (s : State) : State :=
  let entries := (c.accumulator.map s.pfb.entries).getD []
  match p.step with
  | .assembly => s.modPfb fun b => { b with pass := some (stepA g geo entries p) }
  | .edges => afterEdges c g geo (stepB g p) s
  | .statistics => s.modPfb fun b => { b with pass := some (beginFilter c s (stepC g geo p)) }
  | .filter =>
    s.modPfb fun b =>
      { b with
        working := filterChunk g geo p b.working
        pass := some (advanceTo geo.Z .finish p) }
  | .finish => finishPass c g entries p s

/-- R51, R70: the result of a chunk reaches the profile builder, which discards it when the pass is abandoned. -/
def chunkResult (k : Chunk) (s : State) : State :=
  match s.pfb.pass with
  | none => s
  | some p =>
    if p.scan == k.scan then
      match contextOf s p.scan, s.gtu.geometry with
      | some c, some geo =>
        match gradeAt s c.slot with
        | some g => runChunk c g geo p s
        | none => s
      | _, _ => s
    else s

/-- PASS_CHUNK_COMPLETE as one event: the result is handed over, tests follow, and the arbiter chooses. -/
def passChunkComplete (s : State) : State :=
  match s.cve.job with
  | some (.chunk k) =>
    engineTests (motionTests (passTests (chunkResult k (s.modCve fun c => { c with job := none }))))
  | _ => s

/-! ## Completion of a sample job (R67, R94, R113) -/

/-- R113: append an entry to the trend ring, overwriting the oldest of 64. -/
def appendTrend (e : TrendEntry) (l : List TrendEntry) : List TrendEntry :=
  (l ++ [e]).drop (l.length + 1 - Config.trendRingSize)

/-- R67 step 1: a result goes into its scan's accumulator, or to the trend ring unless it is stale (R114). -/
def storeResult (j : SampleJob) (s : State) : State :=
  match j.record.kind with
  | .scan | .probe =>
    modEntry j.record.number (j.record.slot.getD 0) (fun e => { e with readings := convert j }) s
  | .point =>
    if j.stale then s
    else
      s.modPfb fun p =>
        { p with
          trend := appendTrend
            { sequence := j.record.number, readings := convert j, flags := resultFlags j } p.trend }

/-- SAMPLE_JOB_COMPLETE as one event: result, break monitor, completion, tests, and the arbiter. -/
def sampleJobComplete (s : State) : State :=
  match s.cve.job with
  | some (.sample j) =>
    let stored := storeResult j (s.modCve fun c => { c with job := none })
    engineTests (motionTests (passTests (watchResult j (convert j).bw stored)))
  | _ => s

/-! ## CLEAR_PROFILES and geometry changes (R32, R109, R117) -/

/-- R109: the scans CLEAR_PROFILES abandons: IN_PASS and COMPLETE. -/
def clearedScans (s : State) : List Nat :=
  (s.pfb.contexts.filter fun c => c.stage == .inPass || c.stage == .complete).map ScanContext.number

/-- R103: the mark of CLEAR_PROFILES: the oldest scan still held, or the scan number + 1. -/
def oldestMark (s : State) : Mark :=
  match s.pfb.contexts.head? with
  | some c => { scan := c.number, order := c.order }
  | none => nextMark s

/-- R107: empty both profile sets for Z zones and forget what was published. -/
def emptySets (Z : Nat) (p : ProfileBuilder) : ProfileBuilder :=
  { p with
    pass := none
    working := List.replicate Z .emptied, published := List.replicate Z .emptied
    publishedScan := 0, publishedEdges := none }

/-- The watch becomes none and the run count 0 (R139). -/
def watchOff (s : State) : State := s.modBkm fun b => { b with watch := .off, runCount := 0 }

/-- R109: CLEAR_PROFILES. -/
def clearProfiles (s : State) : State :=
  let Z := (s.gtu.geometry.map Geometry.Z).getD 0
  let s1 := (removeScans (clearedScans s) s).modPfb (emptySets Z)
  watchOff (setReseed (oldestMark s1) s1)

/-- R32, R117: an accepted geometry replaces the one in force and discards everything computed against the old cut. -/
def replaceGeometry (g : Geometry) (s : State) : State :=
  let s1 := s.modGtu fun u => { u with geometry := some g, queue := [], held := none }
  let s2 := (removeScans (s.pfb.contexts.map ScanContext.number) s1).modPfb fun p =>
    { emptySets g.Z p with
      acc0 := List.replicate g.slotCount .cleared, acc1 := List.replicate g.slotCount .cleared
      summaries := [], trend := [] }
  watchOff (setReseed (nextMark s2) (stalePointJob s2))

end Sys2Proof.Machine
end

