-- ==== Sys2Proof/Machine/Gates.lean ====
section
/-! DEFINITION. The gate unit's events: encoder edges with the comparator and the reversals, head pulses, point gates and sub-gates (02, 01). -/

namespace Sys2Proof.Machine

/-! ## The comparator (R33 to R37) -/

/-- R34: whether the armed comparator matches at a position. -/
def matchesAt (g : Geometry) (c : Comparator) (position : Int) : Bool :=
  match c.direction with
  | .fwd => (g.boundary c.target : Int) ≤ position
  | .rev => position ≤ (g.boundary c.target : Int)

/-- The index of the first boundary of a scan in a direction (R36). -/
def firstBoundary (g : Geometry) : Direction → Nat
  | .fwd => 0
  | .rev => g.slotCount

/-- The index of the last boundary of a scan in a direction (R37). -/
def lastBoundary (g : Geometry) : Direction → Nat
  | .fwd => g.slotCount
  | .rev => 0

/-- R35: the target one index on in the direction of travel. -/
def nextTarget : Direction → Nat → Nat
  | .fwd, t => t + 1
  | .rev, t => t - 1

/-- R35: the slot whose gate closes at the match of b_t. -/
def closingSlot : Direction → Nat → Nat
  | .fwd, t => t - 1
  | .rev, t => t

/-- R36: the kind of the records of a scan; a SKIPPED scan gives none. -/
def recordKind : ScanKind → Option SampleKind
  | .normal => some .scan
  | .probe => some .probe
  | .skipped => none

/-- R40: the record of the gate that closes now. -/
def formRecord (kind : SampleKind) (number : Nat) (slot : Option Nat) (direction : Option Direction)
    (gateTime : Nat) (s : State) : SampleRecord :=
  { kind := kind, number := number, slot := slot, direction := direction, gateTime := gateTime
    counts := s.gtu.counters, flags := sampleFlags gateTime s.gtu.counters s.gtu.unconfirmed }

/-- R35: at a capture the open gate of a scan closes; its record is placed, or discarded in a SKIPPED scan. -/
def closeGate (c : Comparator) (s : State) : State :=
  match s.gtu.openScan with
  | none => capture s
  | some o =>
    match recordKind o.kind with
    | none => capture s
    | some kind =>
      place
        (formRecord kind o.number (some (closingSlot c.direction c.target)) (some c.direction)
          (gateReading s) s)
        (capture s)

/-- R9, R36: the scan start at the traverse controller: IN_WINDOW, approach cleared. -/
def traverseScanStart (s : State) : State :=
  match s.trc.state with
  | .scanning d _ _ park => moveTo (.scanning d .inWindow false park) s
  | _ => s

/-- R35: the target moves on. -/
def moveTarget (c : Comparator) (s : State) : State :=
  s.modGtu fun g =>
    { g with comparator := some { c with target := nextTarget c.direction c.target } }

/-- R36: the match of the first boundary, the scan start. -/
def gateScanStart (c : Comparator) (s : State) : State :=
  moveTarget c (profileScanStart c.direction (traverseScanStart (capture s)))

/-- R17, R37: the scan end at the traverse controller: TURN, or a transit to P if park-after-scan is set. -/
def traverseScanEnd (s : State) : State :=
  match s.trc.state with
  | .scanning _ _ _ true => moveTo (.transit .park .noAction) s
  | .scanning d _ a false => moveTo (.scanning d .turn a false) s
  | _ => s

/-- R37: the match of the last boundary, the scan end. -/
def gateScanEnd (c : Comparator) (s : State) : State :=
  let closed := (closeGate c s).modGtu fun g => { g with comparator := none, openScan := none }
  let turned := traverseScanEnd closed
  match s.gtu.openScan with
  | some o => profileScanEnd o.number turned
  | none => turned

/-- R35 to R37: a match of the comparator. -/
def gateMatch (g : Geometry) (c : Comparator) (s : State) : State :=
  if c.target == firstBoundary g c.direction then gateScanStart c s
  else if c.target == lastBoundary g c.direction then gateScanEnd c s
  else moveTarget c (closeGate c s)

/-- R34: the comparator looks at a change of the position counter; a match is one event with all that it brings about. -/
def compare (s : State) : State :=
  match s.gtu.geometry, s.gtu.comparator with
  | some g, some c =>
    if matchesAt g c s.trc.position then engineTests (motionTests (passTests (gateMatch g c s))) else s
  | _, _ => s

/-! ## Reversals (R9, R18) -/

/-- R9, R34: a reversal flips the direction and arms the comparator for the first boundary of the next scan. -/
def reverseTo (direction : Direction) (target : Nat) (park : Bool) (s : State) : State :=
  (moveTo (.scanning direction .turn false park) s).modGtu fun g =>
    { g with comparator := some { direction := direction, target := target } }

/-- R18: the standardize unit presents a pending standardize at E0. -/
def stdPresented (s : State) : Bool := s.sdu.wanted && s.bkm.state != .probing

/-- R9, R18: a head in TURN that reaches or passes the reversal point ahead. -/
def reversal (s : State) : State :=
  match s.gtu.geometry, s.trc.state with
  | some g, .scanning .fwd .turn _ park =>
    if g.e1 ≤ s.trc.position then reverseTo .rev g.slotCount park s else s
  | some g, .scanning .rev .turn _ park =>
    if s.trc.position ≤ g.e0 then
      if stdPresented s then motionTests (moveTo (.transit .park .scan) s) else reverseTo .fwd 0 park s
    else s
  | _, _ => s

/-- R2: an encoder edge moves the position counter by one. -/
def countEdge (towardsFront : Bool) (s : State) : State :=
  s.modTrc fun t => { t with position := if towardsFront then t.position + 1 else t.position - 1 }

/-- ENCODER_EDGE as one event: position, comparator, reversal. -/
def encoderEdge (towardsFront : Bool) (s : State) : State := reversal (compare (countEdge towardsFront s))

/-! ## Head pulses (R38) -/

/-- R38: a saturating count. -/
def countPulse (n : Nat) : Nat := if n < Config.counterMax then n + 1 else n

/-- R38: a pulse on a head input. -/
def headPulse (input : HeadInput) (s : State) : State :=
  s.modGtu fun g =>
    { g with
      counters :=
        match input with
        | .bwc => { g.counters with bwc := countPulse g.counters.bwc }
        | .mac => { g.counters with mac := countPulse g.counters.mac }
        | .mrc => { g.counters with mrc := countPulse g.counters.mrc }
        | .clc => { g.counters with clc := countPulse g.counters.clc } }

/-! ## Point gates (R46) -/

/-- R46: T of a gate closed by a timer: the gate timer's reading, at least the period that has expired (log 3). -/
def timedReading (periodUs : Nat) (s : State) : Nat := max periodUs (gateReading s)

/-- R46: an expiry of the point timer closes a point gate and opens the next. -/
def closePointGate (periodMs : Nat) (s : State) : State :=
  let sequence := (s.gtu.pointSequence + 1) % 4294967296
  let record := formRecord .point sequence none none (timedReading (periodMs * 1000) s) s
  place record
    ((capture s).modGtu fun g => { g with pointSequence := sequence, pointTimer := some 0 })

/-- POINT_TIMER_EXPIRY as one event: an overrun of it may complete an ended scan (R45, R95). -/
def pointTimerExpiry (s : State) : State :=
  match s.trc.state, s.gtu.pointTimer with
  | .point _ periodMs, some _ => engineTests (passTests (closePointGate periodMs s))
  | _, _ => s

/-! ## Dwell sub-gates (R47, R125, R127) -/

/-- R125, R127: a sub-gate result added to the sums of its phase. -/
def addSubGate (time : Nat) (c : Counts) (p : PhaseSums) : PhaseSums :=
  { time := p.time + time, bw := p.bw + c.bwc, ma := p.ma + c.mac, mr := p.mr + c.mrc, cl := p.cl + c.clc }

/-- R125: a result of the DARK step; the last one commands the shutter open. -/
def darkSubGate (limit time : Nat) (c : Counts) (d : DwellRecord) : DwellRecord :=
  let r := { d with
    dark := addSubGate time c d.dark, taken := d.taken + 1
    satBw := d.satBw || c.bwc == Config.counterMax }
  if limit ≤ r.taken then { r with step := .opening, taken := 0 } else r

/-- R127: a result of the AIR step; the last one goes on to EVALUATING. -/
def airSubGate (limit time : Nat) (c : Counts) (d : DwellRecord) : DwellRecord :=
  let r := { d with
    air := addSubGate time c d.air, taken := d.taken + 1
    satBw := d.satBw || c.bwc == Config.counterMax
    satMa := d.satMa || c.mac == Config.counterMax
    satMr := d.satMr || c.mrc == Config.counterMax
    satCl := d.satCl || c.clc == Config.counterMax }
  if limit ≤ r.taken then { r with step := .evaluating } else r

/-- R47: the sub-gate timer restarts unless the phase has ended with this result. -/
def subGateAfter (step : DwellStep) : Option Nat :=
  match step with
  | .dark | .air => some 0
  | .opening | .evaluating => none

/-- R127: the evaluation posted when a dwell has just reached EVALUATING. -/
def postedAfter (d : DwellRecord) (waiting : Option (PhaseSums × PhaseSums)) : Option (PhaseSums × PhaseSums) :=
  match d.step with
  | .evaluating => some (d.dark, d.air)
  | _ => waiting

/-- R47: a dwell after a sub-gate result. -/
def dwellAfter (limit time : Nat) (c : Counts) (d : DwellRecord) : DwellRecord :=
  match d.step with
  | .dark => darkSubGate limit time c d
  | .air => airSubGate limit time c d
  | .opening | .evaluating => d

/-- R47: an expiry of the sub-gate timer hands a sub-gate result over. -/
def closeSubGate (d : DwellRecord) (s : State) : State :=
  let after := dwellAfter s.sdu.settings.phaseLength (timedReading Config.subGateUs s) s.gtu.counters d
  ((capture s).modSdu fun u =>
      { u with dwell := some after, posted := postedAfter after u.posted }).modGtu fun g =>
    { g with subGateTimer := subGateAfter after.step }

/-- SUB_GATE_EXPIRY as one event. -/
def subGateExpiry (s : State) : State :=
  match s.sdu.dwell, s.gtu.subGateTimer with
  | some d, some _ => engineTests (shutterFollow (closeSubGate d s))
  | _, _ => s

end Sys2Proof.Machine
end

