-- ==== Sys2Proof/Machine/Standard.lean ====
section
/-! DEFINITION. The standardize evaluation, its judgement and completion, and the shutter supervision's events (06). -/

namespace Sys2Proof.Machine

/-! ## Candidates and drifts (R71, R128) -/

/-- R128: a rate over a phase, saturating. -/
def phaseRate (n time : Nat) : Nat := min Config.counterMax (nearestUp (n * 1000000) time)

/-- R128: the candidate dark rate b'. -/
def candidateB (dark : PhaseSums) : Nat := phaseRate dark.bw dark.time

/-- R128: the candidate air rate r0', net of b' and floored at 0. -/
def candidateR0 (dark air : PhaseSums) : Nat := phaseRate air.bw air.time - candidateB dark

/-- R128: the candidate air ratio q0'; none when the reference band counted nothing. -/
def candidateQ0 (air : PhaseSums) : Option Nat :=
  if air.mr == 0 then none else some (min 65535 (nearestUp (air.ma * 16384) air.mr))

/-- R128: the candidate caliper zero rate f0'. -/
def candidateF0 (air : PhaseSums) : Nat := phaseRate air.cl air.time

/-- The distance between two values. -/
def distance (a b : Nat) : Nat := (a - b) + (b - a)

/-- R128: the drift of a candidate against a reference that is not 0, in 0.1 %. -/
def driftOf (candidate reference : Nat) : Option Nat :=
  if reference == 0 then none
  else some (min 65535 (nearestUp (distance candidate reference * 1000) reference))

/-! ## Judgement (R129, R130) -/

/-- R129 rows 4 to 7: the judgement of a candidate that no mark rejects. -/
def judgeCandidate (reference limit candidate : Nat) : StdResult :=
  match driftOf candidate reference with
  | none => if candidate == 0 then .rejected .zero else .first
  | some d => if limit < d then .rejected .drift else .adopted

/-- R129: the judgement of a channel: row 1 for a dark shutter, row 2 for saturation, row 3 for no candidate. -/
def judge (darkShutter saturated : Bool) (reference limit : Nat) (candidate : Option Nat) : StdResult :=
  if darkShutter then .rejected .darkShutter
  else if saturated then .rejected .saturated
  else
    match candidate with
    | none => .rejected .noReferenceBand
    | some c => judgeCandidate reference limit c

/-- R129: the result adopts its candidate. -/
def adopts : StdResult → Bool
  | .adopted | .first => true
  | _ => false

/-- R129, R130: a channel's record after its judgement. -/
def judgedChannel (result : StdResult) (reference : Nat) (candidate : Option Nat) (c : StdChannel) : StdChannel :=
  let rejects := if adopts result then 0 else min 255 (c.rejects + 1)
  { result := result, candidate := candidate, drift := candidate.bind (driftOf · reference)
    rejects := rejects
    suspect := if adopts result then false else c.suspect || 3 ≤ rejects }

/-- R130: the alarms of a channel's judgement. -/
def judgementAlarms (channel : Nat) (c : StdChannel) (s : State) : State :=
  if adopts c.result then s
  else
    let s1 := raiseAlarm .stdRejected channel s
    if 3 ≤ c.rejects then raiseAlarm .stdPersistent channel s1 else s1

/-- R129: the BW channel: r0' and b' are written together. -/
def judgeBw (d : DwellRecord) (e : Evaluation) (s : State) : State :=
  let candidate := candidateR0 e.dark e.air
  let result := judge d.darkShutter d.satBw s.sdu.refs.r0 s.sdu.settings.bwLimit (some candidate)
  let c := judgedChannel result s.sdu.refs.r0 (some candidate) s.sdu.bw
  judgementAlarms 0 c
    (s.modSdu fun u =>
      { u with
        bw := c
        refs := if adopts result then { u.refs with r0 := candidate, b := candidateB e.dark } else u.refs })

/-- R129: the MOI channel. -/
def judgeMoi (d : DwellRecord) (e : Evaluation) (s : State) : State :=
  let candidate := candidateQ0 e.air
  let result := judge false (d.satMa || d.satMr) s.sdu.refs.q0 s.sdu.settings.moiLimit candidate
  let c := judgedChannel result s.sdu.refs.q0 candidate s.sdu.moi
  judgementAlarms 1 c
    (s.modSdu fun u =>
      { u with
        moi := c
        refs := if adopts result then { u.refs with q0 := candidate.getD u.refs.q0 } else u.refs })

/-- R129: the CAL channel. -/
def judgeCal (d : DwellRecord) (e : Evaluation) (s : State) : State :=
  let candidate := candidateF0 e.air
  let result := judge false d.satCl s.sdu.refs.f0 s.sdu.settings.calLimit (some candidate)
  let c := judgedChannel result s.sdu.refs.f0 (some candidate) s.sdu.cal
  judgementAlarms 2 c
    (s.modSdu fun u =>
      { u with
        cal := c
        refs := if adopts result then { u.refs with f0 := candidate } else u.refs })

/-- R130: some channel is SUSPECT. -/
def anySuspect (u : Standardize) : Bool := u.bw.suspect || u.moi.suspect || u.cal.suspect

/-- R129, R130: the judgement, in the order BW, MOI, CAL. -/
def judgement (d : DwellRecord) (e : Evaluation) (s : State) : State :=
  let s1 := judgeCal d e (judgeMoi d e (judgeBw d e s))
  if anySuspect s1.sdu then s1 else endAlarm .stdPersistent s1

/-- R131 step 5, R22: the traverse controller ends the dwell. -/
def dwellEnds (s : State) : State :=
  match s.trc.state with
  | .dwell true => enterScanning s
  | .dwell false => moveTo .parked s
  | _ => s

/-- R131: completion of a standardize. -/
def completeStandardize (s : State) : State :=
  dwellEnds
    (s.modSdu fun u =>
      { u with
        wanted := false, countdown := countdownFrom u.settings.interval
        lastScan := s.pfb.scanNumber, stdDone := true, dwell := none })

/-- R51, R131: the result of an evaluation reaches the standardize unit, which discards it when its dwell was aborted. The dwell's end into PARKED closes the shutter (R134), before the tests that PARKED brings. -/
def evaluationResult (e : Evaluation) (s : State) : State :=
  match s.sdu.dwell with
  | some d => if e.stale then s else motionTests (shutterFollow (completeStandardize (judgement d e s)))
  | none => s

/-- EVALUATION_COMPLETE as one event. -/
def evaluationComplete (s : State) : State :=
  match s.cve.job with
  | some (.evaluation e) =>
    engineTests (evaluationResult e (s.modCve fun c => { c with job := none }))
  | _ => s

/-! ## The shutter supervision (R135, R136) -/

/-- R135: the supervision looks at a confirm that has settled. -/
def supervise (s : State) : State :=
  if s.sdu.confirm.level == s.sdu.shutterOpen then
    match s.sdu.supervision with
    | .settling | .failed => shutterAgrees s
    | .agreed => s
  else
    match s.sdu.supervision with
    | .agreed => motionTests (shutterFails s)
    | .settling | .failed => s

/-- R40, R125: what a debounced confirm that shows open or closed marks: the open gate, or a dwell in its DARK step. -/
def markConfirm (shown : Bool) (s : State) : State :=
  if shown then
    s.modSdu fun u =>
      { u with
        dwell := u.dwell.map fun d => if d.step == .dark then { d with darkShutter := true } else d }
  else s.modGtu fun g => { g with unconfirmed := true }

/-- R3, R135: a raw change of a debounced contact restarts its debounce. -/
def rawChange (active : Bool) (d : Debounced) : Debounced :=
  if d.raw == active then d else { d with raw := active, timer := some 0 }

/-- R3, R135: a raw level stable for 2 ms becomes the debounced level. -/
def settle (d : Debounced) : Debounced := { d with level := d.raw, timer := none }

/-- SHUTTER_CONFIRM_SETTLED as one event. -/
def confirmSettled (s : State) : State :=
  match s.sdu.confirm.timer with
  | none => s
  | some _ =>
    supervise
      (markConfirm s.sdu.confirm.raw
        (s.modSdu fun u => { u with confirm := settle u.confirm }))

/-- SHUTTER_WINDOW_EXPIRY as one event. -/
def windowExpiry (s : State) : State :=
  match s.sdu.supervision with
  | .settling =>
    if s.sdu.confirm.level == s.sdu.shutterOpen then shutterAgrees s else motionTests (shutterFails s)
  | .agreed | .failed => s

end Sys2Proof.Machine
end

