-- ==== Sys2Proof/Machine/Lines.lean ====
section
/-! DEFINITION. Plant lines: debounce, edges and roles of the input lines, the interlock, the level condition, SET_LINES (08). -/

namespace Sys2Proof.Machine

/-! ## The interlock (R167, R168) -/

/-- R168: an INTERLOCK-role line that is not ACTIVE. -/
def interlockOpen (l : InputLine) : Bool := l.setting.role == .interlock && !lineActive l

/-- R168 steps 1 and 2: a loss raises INTERLOCK unless the head is at rest, then gives a halt order. -/
def interlockLoss (s : State) : State :=
  let s1 :=
    if atRest s.trc.state then s
    else raiseAlarm .interlock (lowestLine interlockOpen s.plx.inputs) s
  haltOrder s1

/-- R167, R168: form the interlock anew and act on a loss or a regain; the tests of R22 and R148 and the shutter follow in the same event. -/
def formInterlock (s : State) : State :=
  let formed := interlockFormed s.plx.inputs
  let s1 := s.modPlx fun p => { p with interlock := formed }
  match s.plx.interlock, formed with
  | true, false => motionTests (interlockLoss s1)
  | false, true => motionTests (endAlarm .interlock s1)
  | true, true | false, false => s1

/-! ## The level condition (R143, R165) -/

/-- R165, R146: form the level condition anew; turning true it is an INPUT cause from the line that made it true, turning false it is one of the events of R146. -/
def formLevelCondition (s : State) : State :=
  let formed := s.plx.inputs.any levelBreakActive
  let s1 := s.modBkm fun b => { b with levelCondition := formed }
  match s.bkm.levelCondition, formed with
  | false, true => motionTests (inputCause (lowestLine levelBreakActive s.plx.inputs) s1)
  | true, false => motionTests s1
  | true, true | false, false => s1

/-! ## Debounced changes (R163 to R165) -/

/-- R164: the mode qualifies a leading (true) or trailing (false) edge. -/
def qualifies : InputMode → Bool → Bool
  | .rising, leading => leading
  | .falling, leading => !leading
  | .both, _ => true
  | .level, _ => false

/-- R165: the edge triggers a STD_REQUEST line. -/
def triggersStd (mode : InputMode) (leading : Bool) : Bool :=
  qualifies mode leading || (mode == .level && leading)

/-- R143, R165: an edge of a BREAK line is an INPUT cause when its mode qualifies it; a LEVEL-mode line forms the level condition. -/
def breakEdge (line : Nat) (mode : InputMode) (leading : Bool) (s : State) : State :=
  if mode == .level then formLevelCondition s
  else if qualifies mode leading then motionTests (inputCause line s)
  else s

/-- R165, R167: what a debounced change of a line does by its role. -/
def edgeConsequences (line : Nat) (setting : InputSetting) (leading : Bool) (s : State) : State :=
  match setting.role with
  | .interlock => formInterlock s
  | .break => breakEdge line setting.mode leading s
  | .stdRequest => if triggersStd setting.mode leading then motionTests (setWanted s) else s
  | .noRole | .machineRun => s

/-- R163, R165, R167: what the establishment of a line does by its role; it is no edge. -/
def establishConsequences (setting : InputSetting) (s : State) : State :=
  match setting.role with
  | .interlock => formInterlock s
  | .break => if setting.mode == .level then formLevelCondition s else s
  | .stdRequest | .noRole | .machineRun => s

/-- Replace one input line. -/
def setLine (line : Nat) (l : InputLine) (s : State) : State :=
  s.modPlx fun p => { p with inputs := p.inputs.set line l }

/-- R163: the debounced level of a line takes its raw level: an establishment while UNSETTLED, a debounced change when they differ. -/
def takeLevel (line : Nat) (s : State) : State :=
  match s.plx.inputs[line]? with
  | none => s
  | some l =>
    let taken := { l with high := some l.raw, timer := 0 }
    match l.high with
    | none => establishConsequences l.setting (setLine line taken s)
    | some high =>
      if high == l.raw then s
      else
        edgeConsequences line l.setting (lineActive taken) (setLine line { taken with change := true } s)

/-- R163: a raw level change restarts the stability timer. -/
def inputRawChange (line : Nat) (high : Bool) (s : State) : State :=
  match s.plx.inputs[line]? with
  | none => s
  | some l => if l.raw == high then s else setLine line { l with raw := high, timer := 0 } s

/-! ## SET_LINES (R172) -/

/-- R172 step 1: the line record replaces the settings; levels, timers and latches are kept. -/
def replaceSettings (r : LineRecord) (p : LineUnit) : LineUnit :=
  { p with
    inputs := List.zipWith (fun l setting => { l with setting := setting }) p.inputs r.inputs
    outputs := List.zipWith (fun o setting => { o with setting := setting }) p.outputs r.outputs }

/-- R172: the line's timer stands at or beyond its debounce time with the raw level not taken. -/
def lineDue (l : InputLine) : Bool := l.high != some l.raw && l.setting.debounceMs * 1000 ≤ l.timer

/-- R172: a line whose timer already stands at its new debounce time takes the raw level at once. -/
def takeIfDue (s : State) (line : Nat) : State :=
  match s.plx.inputs[line]? with
  | some l => if lineDue l then takeLevel line s else s
  | none => s

/-- R172: an accepted SET_LINES, as one event. -/
def setLines (r : LineRecord) (s : State) : State :=
  (List.range 8).foldl takeIfDue
    (formLevelCondition (formInterlock (s.modPlx (replaceSettings r))))

/-! ## DRIVE_OUTPUTS (R170) -/

/-- R170: a manual latch after the set and the clear mask. -/
def latchAfter (set clear old : Bool) : Bool := !clear && (set || old)

/-- R170: the manual latches after a set mask and a clear mask. -/
def driveOutputs (set clear : Nat) (p : LineUnit) : LineUnit :=
  { p with
    outputs := p.outputs.mapIdx fun i o =>
      { o with manual := latchAfter (set.testBit i) (clear.testBit i) o.manual } }

end Sys2Proof.Machine
end

