-- ==== Sys2Proof/Machine/Traverse.lean ====
section
/-! DEFINITION. The traverse controller's own events: the speed loop with its setpoints, arrivals and stall watch, the PWM period, current trips, and the frame switches (01). -/

namespace Sys2Proof.Machine

/-! ## Setpoints (R9 to R12, R14) -/

/-- R84: the scan speed of the active slot's grade. SCANNING always has an active slot; without one the head is not driven (log 27). -/
def gradeSpeed (s : State) : Nat := ((activeGrade s).map GradeRecord.speed).getD 0

/-- A magnitude with the sign of a direction (R9). -/
def directed (direction : Direction) (magnitude : Nat) : Int :=
  match direction with
  | .fwd => (magnitude : Int)
  | .rev => -(magnitude : Int)

/-- R9, R10: a speed ramped over the ramp distance. -/
def ramped (speed distance ramp : Nat) : Nat :=
  if distance < ramp then nearestUp (speed * distance) ramp else speed

/-- R9: the distance still to go to the reversal point ahead. -/
def remaining (g : Geometry) (direction : Direction) (position : Int) : Nat :=
  match direction with
  | .fwd => (g.e1 - position).toNat
  | .rev => (position - g.e0).toNat

/-- R9: the distance beyond the reversal point just passed; 0 while the head that has overshot it is still outside (log 36). -/
def beyond (g : Geometry) (direction : Direction) (position : Int) : Nat :=
  match direction with
  | .fwd => (position - g.e0).toNat
  | .rev => (g.e1 - position).toNat

/-- R9: the magnitude on the way back from a reversal point. -/
def inboundSpeed (speed distance ramp : Nat) : Nat :=
  if distance < ramp then max 200 (nearestUp (speed * distance) ramp) else speed

/-- R9: the setpoint magnitude in TURN. After a reversal the comparator is armed for the next scan, before it is idle (log 10). -/
def turnSpeed (g : Geometry) (direction : Direction) (approach armed : Bool) (position : Int) (speed : Nat) : Nat :=
  if approach then speed
  else if armed then inboundSpeed speed (beyond g direction position) g.ramp
  else ramped speed (remaining g direction position) g.ramp

/-- R9: the setpoint in SCANNING. -/
def scanSetpoint (g : Geometry) (direction : Direction) (phase : ScanPhase) (approach : Bool) (s : State) : Int :=
  directed direction
    (match phase with
      | .inWindow => gradeSpeed s
      | .turn => turnSpeed g direction approach s.gtu.comparator.isSome s.trc.position (gradeSpeed s))

/-- R10: the setpoint of a move to a target at a speed. -/
def transitSetpoint (g : Geometry) (target : Nat) (speed : Nat) (position : Int) : Int :=
  let d := (target : Int) - position
  if 0 ≤ d then (ramped speed d.natAbs g.ramp : Int) else -(ramped speed d.natAbs g.ramp : Int)

/-- R10: the position of a target. -/
def targetPosition (g : Geometry) : Target → Nat
  | .park => g.P
  | .point position _ => position

/-- R11: the setpoint in POINT. -/
def pointSetpoint (point : Nat) (position : Int) : Int := clampInt (-2000) 2000 (8 * ((point : Int) - position))

/-- R14: the setpoint of a homing step. -/
def homingSetpoint (g : Geometry) (step : HomingStep) (s : State) : Int :=
  match step with
  | .seekClear => (s.trc.drive.homingSpeed : Int)
  | .seekHome => -(s.trc.drive.homingSpeed : Int)
  | .toPark false => 0
  | .toPark true => transitSetpoint g g.P s.trc.drive.homingSpeed s.trc.position

/-- R9 to R12, R14: the setpoint v_set of the current state, 0 where no loop runs. -/
def setpointIn (g : Geometry) (s : State) : Int :=
  match s.trc.state with
  | .homing step => homingSetpoint g step s
  | .transit target _ => transitSetpoint g (targetPosition g target) s.trc.drive.transitSpeed s.trc.position
  | .scanning direction phase approach _ => scanSetpoint g direction phase approach s
  | .point position _ => pointSetpoint position s.trc.position
  | .halting | .stopped | .parked | .dwell _ | .faulted _ => 0

/-- The setpoint of the current state. Every state with a setpoint other than 0 has a geometry; without one the setpoint is 0 (log 27). -/
def setpoint (s : State) : Int :=
  match s.gtu.geometry with
  | some g => setpointIn g s
  | none => 0

/-! ## The loop run (R2, R5, R7) -/

/-- R2: the measured speed is below 50 counts per second. -/
def slow (t : Traverse) : Bool := t.vMeas.natAbs < 50

/-- R2: v_meas formed from the change of the position counter over the last millisecond (log 8). -/
def formSpeed (t : Traverse) : Traverse :=
  { t with vMeas := (t.position - t.lastPosition) * 1000, lastPosition := t.position, loopPhase := 0 }

/-- R5: the duty buffer after a loop run. -/
def loopBuffer (kp : Nat) (buffer vSet vMeas : Int) : Int :=
  clampInt (-Config.dutyMax) Config.dutyMax (buffer + truncation ((kp : Int) * (vSet - vMeas)) 1024)

/-- R7: a stall exists. -/
def stalled (t : Traverse) : Bool := t.drive.stallDuty ≤ t.buffer.natAbs && slow t

/-- R7: the stall timer after a loop run; every run with a stall counts as one millisecond, the first one too (log 35). -/
def watchStall (t : Traverse) : Traverse :=
  { t with stallMs := if stalled t then min Config.stallMs (t.stallMs + 1) else 0 }

/-- R14: at rest in TO_PARK the move to P starts. -/
def startToPark (t : Traverse) : Traverse :=
  match t.state with
  | .homing (.toPark false) => if slow t then { t with state := .homing (.toPark true) } else t
  | _ => t

/-- R5, R7: one run of the loop with a setpoint. -/
def loopUpdate (vSet : Int) (t : Traverse) : Traverse :=
  watchStall { t with buffer := loopBuffer t.drive.kp t.buffer vSet t.vMeas }

/-! ## Arrivals and halts (R10, R12, R14) -/

/-- R10: within 5 counts of a target and at rest. -/
def arrived (target : Nat) (t : Traverse) : Bool :=
  (t.position - (target : Int)).natAbs ≤ 5 && slow t

/-- R10, R16, R22: arrival at P with then-action SCAN: a dwell that resumes scanning, or SCANNING from P. -/
def arriveToScan (s : State) : State := if dwellReady s then enterDwell true s else enterScanning s

/-- R10, R14: what an arrival becomes. -/
def arrival (s : State) : State :=
  match s.trc.state with
  | .transit .park .scan => motionTests (arriveToScan s)
  | .transit .park _ => motionTests (moveTo .parked s)
  | .transit (.point position periodMs) _ => motionTests (enterPoint position periodMs s)
  | .homing (.toPark true) => motionTests ((moveTo .parked s).modTrc fun t => { t with homed := true })
  | _ => s

/-- R10, R14: where the current move ends, if the state makes one. -/
def moveTarget? (g : Geometry) : TraverseState → Option Nat
  | .transit target _ => some (targetPosition g target)
  | .homing (.toPark true) => some g.P
  | _ => none

/-- R10, R14: the arrival test of a loop run. -/
def arrivalTest (s : State) : State :=
  match s.gtu.geometry.bind (fun g => moveTarget? g s.trc.state) with
  | some target => if arrived target s.trc then arrival s else s
  | none => s

/-- R12: HALTING becomes STOPPED at rest. -/
def haltTest (s : State) : State :=
  match s.trc.state with
  | .halting => if slow s.trc then motionTests (moveTo .stopped s) else s
  | _ => s

/-- R5: the loop run of a state whose loop runs: the TO_PARK start, the loop, then the tests of arrival and halt (log 9). -/
def loopRun (s : State) : State :=
  let started := s.modTrc startToPark
  haltTest (arrivalTest (started.modTrc (loopUpdate (setpoint started))))

/-- SPEED_LOOP_RUN as one event: v_meas is formed in every state, the loop runs in those of R5. -/
def speedLoopRun (s : State) : State :=
  let formed := s.modTrc formSpeed
  if loopRuns formed.trc.state then loopRun formed else formed

/-! ## Faults (R6, R7, R13, R23) -/

/-- R23: entry into FAULTED with the tests that follow it. -/
def faultNow (kind : FaultKind) (s : State) : State := motionTests (enterFaulted kind s)

/-- STALL_TIMEOUT as one event: the stall timer has reached 500 ms (R7). -/
def stallTimeout (s : State) : State := if loopRuns s.trc.state then faultNow .driveStall s else s

/-- HOMING_TIMEOUT as one event: the homing timer has reached 60 s (R14). -/
def homingTimeout (s : State) : State := if isHoming s.trc.state then faultNow .homingFailed s else s

/-! ## The bridge (R4, R6) -/

/-- R4, R6: at a period start the bridge takes the duty buffer, or zero during an off-time and in a resting state. -/
def pwmPeriodStart (t : Traverse) : Traverse :=
  { t with
    duty := if loopRuns t.state && t.offTime.isNone then t.buffer else 0
    pwmPhase := 0 }

/-- R6: a trip zeroes the duty, starts or restarts the off-time and is counted. -/
def tripDrive (t : Traverse) : Traverse :=
  { t with
    duty := 0, offTime := some (t.drive.offTimeMs * 1000)
    tripCount := min Config.tripLimit (t.tripCount + 1) }

/-- CURRENT_TRIP as one event: taken while the bridge is enabled; the trip that brings the count to 8 faults the traverse (R6, log 11). -/
def currentTrip (s : State) : State :=
  if isFaulted s.trc.state then s
  else
    let tripped := s.modTrc tripDrive
    if s.trc.tripCount + 1 == Config.tripLimit then faultNow .driveCurrent tripped else tripped

/-- R6: the off-time ends; the next period start applies the buffer. -/
def offTimeEnd (t : Traverse) : Traverse := { t with offTime := none }

/-- R6: a trip window ends and the next begins. -/
def tripWindowEnd (t : Traverse) : Traverse := { t with tripCount := 0, windowPhase := 0 }

/-! ## The frame switches (R3, R14) -/

/-- The contact of a frame switch. -/
def Traverse.switch (t : Traverse) : FrameSwitch → Debounced
  | .home => t.home
  | .backLimit => t.backLimit
  | .frontLimit => t.frontLimit

/-- Replace the contact of a frame switch. -/
def Traverse.withSwitch (t : Traverse) (switch : FrameSwitch) (d : Debounced) : Traverse :=
  match switch with
  | .home => { t with home := d }
  | .backLimit => { t with backLimit := d }
  | .frontLimit => { t with frontLimit := d }

/-- FRAME_SWITCH_RAW_CHANGE (R3). -/
def switchRawChange (switch : FrameSwitch) (active : Bool) (t : Traverse) : Traverse :=
  t.withSwitch switch (rawChange active (t.switch switch))

/-- R3, R14: a leading edge of a limit switch. -/
def limitEdge (s : State) : State :=
  match s.trc.state with
  | .homing _ => faultNow .homingFailed s
  | .faulted _ => raiseAlarm .overtravel s.trc.position (s.modTrc fun t => { t with homed := false })
  | .stopped | .transit _ _ | .parked | .scanning _ _ _ _ | .dwell _ | .point _ _ | .halting =>
    faultNow .overtravel s

/-- R14: the home switch has become active (the leading edge) or inactive. -/
def homeEdge (active : Bool) (s : State) : State :=
  match s.trc.state, active with
  | .homing .seekClear, false => s.modTrc fun t => { t with state := .homing .seekHome }
  | .homing .seekHome, true =>
    s.modTrc fun t => { t with state := .homing (.toPark false), homed := true, position := 0 }
  | _, _ => s

/-- R3: what a debounced change of a switch does; `active` is the new level. -/
def switchEdge (switch : FrameSwitch) (active : Bool) (s : State) : State :=
  match switch with
  | .home => homeEdge active s
  | .backLimit | .frontLimit => if active then limitEdge s else s

/-- FRAME_SWITCH_SETTLED as one event: a raw level stable for 2 ms becomes the debounced level (R3). -/
def switchSettled (switch : FrameSwitch) (s : State) : State :=
  let d := s.trc.switch switch
  match d.timer with
  | none => s
  | some _ =>
    let settled := s.modTrc fun t => t.withSwitch switch (settle d)
    if d.level == d.raw then settled else switchEdge switch d.raw settled

end Sys2Proof.Machine
end

