-- ==== Sys2Proof/Machine/Replies.lean ====
section
/-! DEFINITION. The reply records, byte by byte (R192, R193). Each is formed from the state as the request finds it. -/

namespace Sys2Proof.Machine

/-- A flag as a byte 0 or 1. -/
def bitByte (b : Bool) : Byte := byteOf (if b then 1 else 0)

/-- R190: a countdown as two bytes. -/
def countdownBytes (countdown : Option Nat) : List Byte := le16 (countdownCode countdown)

/-- R190: a zone as two bytes. -/
def zoneBytes (zone : Option Nat) : List Byte := le16 (zoneCode zone)

/-! ## IDENTIFY and STATUS (R186, R187) -/

/-- R186, R192: the IDENTIFY record. -/
def identifyRecord (s : State) : List Byte :=
  le16 Config.partCode ++ [byteOf Config.revision, byteOf s.slp.address, byteOf s.slp.baud]
    ++ le16 Config.maxZones ++ [byteOf Config.gradeSlots]

/-- R192: bits 1 to 5 of the second STATUS byte: direction REV, TURN, approach, park-after-scan, resume-scan. -/
def subFieldBits : TraverseState → List Bool
  | .scanning direction phase approach park =>
    [direction == .rev, phase == .turn, approach, park, false]
  | .dwell resumeScan => [false, false, false, false, resumeScan]
  | _ => [false, false, false, false, false]

/-- R192: the second STATUS byte. -/
def traverseFlags (s : State) : Nat :=
  bitsOf
    ([s.trc.homed] ++ subFieldBits s.trc.state
      ++ [isDwell s.trc.state && dwellPhaseAir s, s.trc.dwellHold])

/-- R192: the transit target or point position; 0 when neither exists. -/
def targetField (s : State) : Nat :=
  match s.trc.state, s.gtu.geometry with
  | .transit .park _, some g => g.P
  | .transit (.point position _) _, _ => position
  | .point position _, _ => position
  | _, _ => 0

/-- R192: the gate period in ms; 0 when there is none. -/
def periodField : TraverseState → Nat
  | .transit (.point _ periodMs) _ => periodMs
  | .point _ periodMs => periodMs
  | _ => 0

/-- R187, R192: the flags of the gate unit, shutter, interlock, standardize and link. -/
def statusFlags (s : State) : Nat :=
  bitsOf
    [s.pfb.pass.isSome, s.gtu.held.isSome, s.sdu.shutterOpen, s.sdu.confirm.level, s.plx.interlock
     , s.sdu.wanted, s.slp.silence.isSome]

/-- The STATUS bytes 0 to 23: the traverse group and the grade slots. -/
def statusTraverse (s : State) : List Byte :=
  [byteOf (traverseCode s.trc.state), byteOf (traverseFlags s), byteOf (thenCode s.trc.state)
   , byteOf (homingCode s.trc.state), byteOf (faultCode s.trc.state)]
    ++ signed32 s.trc.position ++ le32 (targetField s) ++ le16 (periodField s.trc.state)
    ++ signed32 s.trc.vMeas ++ signed16 s.trc.buffer
    ++ [byteOf s.trc.tripCount, byteOf (slotCode s.grs.active), byteOf (slotCode s.grs.staged)]

/-- The STATUS bytes 24 to 40: scans, gate unit, standardize, break and link. -/
def statusRest (s : State) : List Byte :=
  le32 s.pfb.scanNumber ++ le32 ((s.pfb.pass.map PassRecord.scan).getD 0)
    ++ [byteOf (accHeldCount s), byteOf (statusFlags s), byteOf s.gtu.queue.length
        , byteOf (machineRunCode s.plx.inputs)]
    ++ countdownBytes s.sdu.countdown
    ++ [byteOf (breakCode s.bkm.state), byteOf s.slp.silenceTimeout
        , byteOf (resetCauseCode s.slp.resetCause)]

/-- R187, R192: the STATUS record, 41 bytes. -/
def statusRecord (s : State) : List Byte := statusTraverse s ++ statusRest s

/-! ## READ_GRADE (R88) -/

/-- R88: the scan numbers of the pins that name a slot, in the order of their scan starts. -/
def pinScans (s : State) (slot : Nat) : List Nat :=
  (s.grs.pins.filter fun p => p.slot == some slot).map Pin.scan

/-- R88, R192: the READ_GRADE record of a filled slot. -/
def gradeRecordBytes (s : State) (slot : Nat) (g : GradeRecord) : List Byte :=
  [byteOf (bitsOf [s.grs.active == some slot, s.grs.staged == some slot])
   , byteOf (pinScans s slot).length]
    ++ (pinScans s slot).flatMap le32 ++ gradeBytes slot g

/-! ## FETCH_SUMMARY (R110, R112) -/

/-- The figures of a channel; all 0, with the zones 0xFFFF, when its status is not OK (R192). -/
def figureBytes : ChannelStatus → List Byte
  | .ok f =>
    le16 f.mean ++ le16 f.twoSigma ++ le16 f.least ++ le16 f.leastZone ++ le16 f.greatest
      ++ le16 f.greatestZone
  | .noData | .absent =>
    le16 0 ++ le16 0 ++ le16 0 ++ zoneBytes none ++ le16 0 ++ zoneBytes none

/-- R192: a channel block of a summary, 17 bytes. -/
def channelBlock (c : ChannelSummary) : List Byte :=
  [byteOf (channelStatusCode c.status)] ++ le16 c.n ++ figureBytes c.status ++ le16 c.clampedSlots

/-- R192: the alarm kinds raised: bit k − 1 for kind k. -/
def kindBits (kinds : List AlarmKind) : Nat :=
  bitsOf
    ([AlarmKind.sheetBreak, .edgeHole, .bwDeviation, .moiDeviation, .bwSpread, .stdRejected
      , .stdPersistent, .shutter, .driveCurrent, .driveStall, .overtravel, .homingFailed
      , .interlock, .sampleOverrun, .linkLost, .scanSkipped].map fun k => kinds.contains k)

/-- R110, R192: the summary record, 87 bytes. -/
def summaryRecord (x : Summary) : List Byte :=
  le32 x.number ++ [byteOf (directionCode x.direction), byteOf (slotCode x.slot)]
    ++ le16 x.gradeCode
    ++ [byteOf (bitsOf [x.reseeded, x.suspectBw, x.suspectMoi, x.suspectCal])]
    ++ zoneBytes (x.edges.span.map Prod.fst) ++ zoneBytes (x.edges.span.map Prod.snd)
    ++ le16 x.edges.width ++ le16 x.edges.holes ++ le16 (kindBits x.kinds)
    ++ channelBlock x.channels.bw ++ channelBlock x.channels.moi ++ channelBlock x.channels.cal
    ++ channelBlock x.channels.dry

/-! ## READ_PROFILE (R108) -/

/-- R190, R108: the two profile sets a READ_PROFILE may name. -/
inductive ProfileSet where
  | filtered
  | last
  deriving DecidableEq, Repr

/-- R190: profile set codes. -/
def profileSetOf : Nat → Option ProfileSet
  | 0 => some .filtered
  | 1 => some .last
  | _ => none

/-- R192: the value and the status code of a zone's last-scan part. -/
def lastCode : LastReading → Nat × Nat
  | .valid v => (v, 0)
  | .invalid => (0, 1)
  | .absent => (0, 2)
  | .unwritten => (0, 3)

/-- R192: value, status code and age of a zone's cell in a set. -/
def cellFields (set : ProfileSet) (c : ProfileCell) : Nat × Nat × Nat :=
  match set with
  | .filtered =>
    match c.filtered with
    | some v => (v, 0, c.age)
    | none => (0, 3, c.age)
  | .last => ((lastCode c.last).1, (lastCode c.last).2, 0)

/-- R192: the four bytes of one zone. -/
def zoneRecord (set : ProfileSet) (ch : Channel) (z : ProfileZone) : List Byte :=
  let f := cellFields set (z.cells.get ch)
  le16 f.1 ++ [byteOf (f.2.1 + if z.onSheet then 128 else 0), byteOf f.2.2]

/-- R108, R192: the READ_PROFILE record of the zones returned. -/
def profileRecord (s : State) (ch : Channel) (chCode : Nat) (set : ProfileSet) (setCode : Nat)
    (first count : Nat) : List Byte :=
  let zones := (s.pfb.published.drop first).take count
  le32 s.pfb.publishedScan ++ [byteOf chCode, byteOf setCode] ++ le16 first
    ++ [byteOf zones.length] ++ zones.flatMap (zoneRecord set ch)

/-! ## READ_TREND (R115, R193) -/

/-- R193: the flags of a trend entry. -/
def trendFlags (f : ResultFlags) : Nat :=
  bitsOf
    [f.gate.shortGate, f.gate.longGate, f.gate.shutterUnconfirmed, f.gate.satBw, f.gate.satMa
     , f.gate.satMr, f.gate.satCl, f.notStd]

/-- R193: the statuses of a trend entry, two bits per channel. -/
def trendStatuses (r : PerChannel Reading) : Nat :=
  readingCode r.bw + 4 * readingCode r.moi + 16 * readingCode r.cal + 64 * readingCode r.dry

/-- R193: an entry of 15 bytes. -/
def trendBytes (e : TrendEntry) : List Byte :=
  le32 e.sequence ++ le16 (readingValue e.readings.bw) ++ le16 (readingValue e.readings.moi)
    ++ le16 (readingValue e.readings.cal) ++ le16 (readingValue e.readings.dry)
    ++ [byteOf (trendStatuses e.readings), byteOf (trendFlags e.flags)
        , byteOf (bitsOf [readingClamped e.readings.bw, readingClamped e.readings.moi
            , readingClamped e.readings.cal, readingClamped e.readings.dry])]

/-- R115, R193: the entries returned, newest first: at most the count asked for and 32. -/
def trendReturned (count : Nat) (trend : List TrendEntry) : List TrendEntry :=
  trend.reverse.take (min count Config.trendReplyLimit)

/-- R193: the READ_TREND record. -/
def trendRecord (count : Nat) (trend : List TrendEntry) : List Byte :=
  byteOf (trendReturned count trend).length :: (trendReturned count trend).flatMap trendBytes

/-! ## READ_STANDARDIZE (R133) -/

/-- R192: a channel block of 10 bytes. -/
def stdChannelBlock (c : StdChannel) : List Byte :=
  [byteOf (resultCode c.result), byteOf (reasonCode c.result)
   , byteOf (bitsOf [c.candidate.isSome, c.drift.isSome, c.suspect])]
    ++ le32 (c.candidate.getD 0) ++ le16 (c.drift.getD 0) ++ [byteOf c.rejects]

/-- R133, R192: the READ_STANDARDIZE record, 60 bytes. -/
def standardizeRecord (u : Standardize) : List Byte :=
  le32 u.refs.b ++ le32 u.refs.r0 ++ le16 u.refs.q0 ++ le32 u.refs.f0
    ++ stdSettingsBytes u.settings
    ++ stdChannelBlock u.bw ++ stdChannelBlock u.moi ++ stdChannelBlock u.cal
    ++ [bitByte u.wanted] ++ countdownBytes u.countdown ++ le32 u.lastScan
    ++ [byteOf (dwellCode (u.dwell.map DwellRecord.step))]

/-! ## READ_BREAK (R155) -/

/-- R192: the break cause bytes 1 to 17. Without a record its bytes are 0, but for the zone, which is none (log 26). -/
def causeBytes : Option BreakCause → List Byte
  | none => List.replicate 11 0 ++ zoneBytes none ++ List.replicate 4 0
  | some c =>
    [byteOf (bitsOf [true, c.zone.isSome, c.gradeCode.isSome])
     , byteOf (causeCode c.kind), byteOf (originCode c.origin)]
      ++ le32 c.scan ++ signed32 c.position ++ zoneBytes c.zone ++ le16 c.detail
      ++ le16 (c.gradeCode.getD 0)

/-- R192: the last probe result, bytes 18 to 27. -/
def probeBytes : Option ProbeResult → List Byte
  | none => List.replicate 10 0
  | some p =>
    [1] ++ le32 p.scan ++ le16 p.width ++ le16 p.minimum ++ [bitByte p.sheetFound]

/-- R155: the delay remaining in ms: the delay in force while NOT_STARTED, a RUNNING one rounded up to whole milliseconds (log 18), 0 once EXPIRED. Outside WAITING no delay is shown, and its bytes are 0 (R190). -/
def delayRemaining (b : BreakMonitor) : Nat :=
  match b.state with
  | .waiting .notStarted => b.recoveryDelay * 1000
  | .waiting (.running us) => (us + 999) / 1000
  | .waiting .expired => 0
  | .clear | .broken | .probing => 0

/-- R192: the gauge-loss watch, bytes 36 to 44. -/
def watchBytes : Watch → List Byte
  | .off => [0] ++ le32 0 ++ zoneBytes none ++ zoneBytes none
  | .point => [1] ++ le32 0 ++ zoneBytes none ++ zoneBytes none
  | .scan n region =>
    [2] ++ le32 n ++ zoneBytes (region.map Prod.fst) ++ zoneBytes (region.map Prod.snd)

/-- R155, R192: the READ_BREAK record, 47 bytes. -/
def breakRecord (b : BreakMonitor) : List Byte :=
  [byteOf (breakCode b.state)] ++ causeBytes b.cause ++ probeBytes b.lastProbe
    ++ [byteOf b.failedProbes] ++ le16 b.recoveryDelay ++ [byteOf (delayCode b.state)]
    ++ le32 (delayRemaining b) ++ watchBytes b.watch
    ++ [byteOf b.runCount, bitByte b.levelCondition]

/-! ## READ_ALARMS and READ_LINES (R162, R173) -/

/-- R192: an alarm entry of 11 bytes. -/
def alarmBytes (e : AlarmEntry) : List Byte :=
  [byteOf (alarmNumber e.kind), byteOf (bitsOf [e.active, e.acknowledged])] ++ le32 e.firstScan
    ++ [byteOf e.count] ++ signed32 e.detail

/-- R162, R192: the READ_ALARMS record. -/
def alarmsRecord (l : List AlarmEntry) : List Byte := byteOf l.length :: l.flatMap alarmBytes

/-- R192: the byte of an input line. -/
def inputByte (l : InputLine) : Byte :=
  byteOf
    ((match lineState l with
      | some false => 0
      | some true => 1
      | none => 2) + if l.change then 128 else 0)

/-- R192: the byte of an output line. -/
def outputByte (s : State) (o : OutputLine) : Byte := byteOf (bitsOf [outputLogical s o, o.manual])

/-- R173, R192: the READ_LINES record, 17 bytes. -/
def linesRecord (s : State) : List Byte :=
  s.plx.inputs.map inputByte ++ s.plx.outputs.map (outputByte s)
    ++ [bitByte s.plx.interlock, byteOf (machineRunCode s.plx.inputs), bitByte s.bkm.levelCondition]

end Sys2Proof.Machine
end

