-- ==== Sys2Proof/Machine/Requests.lean ====
section
/-! DEFINITION. What the owning block of each request kind does with a body of the right length: the outcome, the reply record and the state left behind (01 to 09). -/

namespace Sys2Proof.Machine

/-- R179, R181: an owner's answer: outcome, reply record (none when empty) and the state the request leaves. -/
structure Answer where
  code : ReplyCode
  record : List Byte
  state : State
  deriving DecidableEq, Repr

/-- A refused request changes nothing (R15, R179). -/
def refuse (code : ReplyCode) (s : State) : Answer := { code := code, record := [], state := s }

/-- An answer without a record. -/
def plain (code : ReplyCode) (s : State) : Answer := { code := code, record := [], state := s }

/-- An answer with a record. -/
def answered (record : List Byte) (s : State) : Answer := { code := .done, record := record, state := s }

/-! ## Link and part (R185 to R188) -/

/-- R186: IDENTIFY. -/
def answerIdentify (s : State) : Answer := answered (identifyRecord s) s

/-- R187: STATUS; building the reply clears RESET_SEEN. -/
def answerStatus (s : State) : Answer :=
  answered (statusRecord s) (s.modSlp fun p => { p with resetSeen := false })

/-- R184: the silence timer loaded from a timeout in seconds. -/
def silenceFrom (timeout : Nat) : Option Nat := if timeout == 0 then none else some (timeout * 1000000)

/-- R185: SERVICE. -/
def answerService (body : List Byte) (s : State) : Answer :=
  let timeout := u8 body 0
  if 60 < timeout then refuse .range s
  else plain .done (s.modSlp fun p => { p with silenceTimeout := timeout, silence := silenceFrom timeout })

/-- R188: RESET_PART. -/
def answerResetPart (s : State) : Answer :=
  if atRest s.trc.state then plain .done (s.modSlp fun p => { p with resetPending := true })
  else refuse .state s

/-! ## Traverse (R8, R13, R15 to R24) -/

/-- R22: an accepted STANDARDIZE, SCAN, PARK or HOME clears the dwell hold. -/
def clearHold (s : State) : State := s.modTrc fun t => { t with dwellHold := false }

/-- R13, R14: entry into HOMING. -/
def enterHoming (s : State) : State :=
  let step : HomingStep := if s.trc.home.level then .seekClear else .seekHome
  (moveTo (.homing step) s).modTrc fun t => { t with homed := false, homingTimer := some 0 }

/-- R13: HOME. -/
def answerHome (s : State) : Answer :=
  if !(s.trc.state == .stopped || s.trc.state == .parked) || s.trc.backLimit.level then refuse .state s
  else if s.gtu.geometry.isNone then refuse .notReady s
  else if !s.plx.interlock then refuse .interlock s
  else plain .accepted (enterHoming (clearHold s))

/-- R16: an accepted SCAN that finds r0 = 0 sets the pending flag. -/
def wantIfNoAir (s : State) : State := if s.sdu.refs.r0 == 0 then setWanted s else s

/-- R16: what a SCAN that has passed every check but BUSY does by state. -/
def scanByState (s : State) : Answer :=
  let s1 := wantIfNoAir (clearHold s)
  match s.trc.state with
  | .parked =>
    plain .accepted (motionTests (if dwellReady s1 then enterDwell true s1 else enterScanning s1))
  | .stopped | .point _ _ => plain .accepted (motionTests (moveTo (.transit .park .scan) s1))
  | .transit .park _ => plain .done (moveTo (.transit .park .scan) s1)
  | .scanning d phase approach _ => plain .done (moveTo (.scanning d phase approach false) s1)
  | .dwell _ => plain .done (moveTo (.dwell true) s1)
  | .transit (.point _ _) _ | .homing _ | .halting => refuse .busy s
  | .faulted _ => refuse .state s

/-- R150: PROBE_NOW in WAITING ends the recovery delay; the tests of R22 and R148 follow (log 13). -/
def probeNow (s : State) : State := motionTests (expireDelay (clearHold s))

/-- R16: the break check and the action of a SCAN. -/
def scanInBreak (now : Bool) (s : State) : Answer :=
  match s.bkm.state, now with
  | .clear, _ => scanByState s
  | .waiting _, true => plain .accepted (probeNow s)
  | .waiting _, false | .broken, _ | .probing, _ => refuse .breakActive s

/-- R16: NOT_READY of SCAN. -/
def scanNotReady (s : State) : Bool :=
  !s.trc.homed || s.gtu.geometry.isNone || (s.grs.active.isNone && s.grs.staged.isNone)

/-- R15, R16: SCAN. -/
def answerScan (body : List Byte) (s : State) : Answer :=
  match readProbeNow body with
  | none => refuse .range s
  | some now =>
    if isFaulted s.trc.state then refuse .state s
    else if scanNotReady s then refuse .notReady s
    else if !s.plx.interlock then refuse .interlock s
    else scanInBreak now s

/-- R19: what a PARK that has passed every check but BUSY does by state. -/
def parkByState (s : State) : Answer :=
  let s1 := clearHold s
  match s.trc.state with
  | .scanning d .inWindow approach _ => plain .done (moveTo (.scanning d .inWindow approach true) s1)
  | .scanning _ .turn _ _ => plain .accepted (motionTests (moveTo (.transit .park .noAction) s1))
  | .stopped | .point _ _ => plain .accepted (motionTests (moveTo (.transit .park .noAction) s1))
  | .transit (.point _ _) _ => plain .accepted (moveTo (.transit .park .noAction) s1)
  | .transit .park _ => plain .done (moveTo (.transit .park .noAction) s1)
  | .parked => plain .done (motionTests s1)
  | .dwell _ => plain .done (moveTo (.dwell false) s1)
  | .homing _ | .halting => refuse .busy s
  | .faulted _ => refuse .state s

/-- R15, R19: PARK. -/
def answerPark (s : State) : Answer :=
  if isFaulted s.trc.state then refuse .state s
  else if !s.trc.homed then refuse .notReady s
  else if s.trc.state == .stopped && !s.plx.interlock then refuse .interlock s
  else parkByState s

/-- R20: STOP. -/
def answerStop (s : State) : Answer :=
  match s.trc.state with
  | .homing _ | .transit _ _ | .scanning _ _ _ _ | .point _ _ =>
    plain .accepted (motionTests (moveTo .halting (abortOpenScan s)))
  | .dwell _ => plain .done (motionTests (moveTo .stopped (abortDwell s)))
  | .parked => plain .done (motionTests (moveTo .stopped s))
  | .stopped | .halting | .faulted _ => plain .done s

/-- R21: the position lies in the window of the geometry in force, and the gate period is in range. -/
def pointInRange (s : State) (position periodMs : Nat) : Bool :=
  s.gtu.geometry.any (fun g => g.inWindow position) && 10 ≤ periodMs && periodMs ≤ 1000

/-- R21: what a POINT that has passed every check but BUSY does by state. -/
def pointByState (position periodMs : Nat) (s : State) : Answer :=
  match s.trc.state with
  | .parked | .stopped | .point _ _ =>
    plain .accepted (motionTests (moveTo (.transit (.point position periodMs) .point) s))
  | .transit _ _ | .homing _ | .halting | .dwell _ => refuse .busy s
  | .faulted _ | .scanning _ _ _ _ => refuse .state s

/-- R15, R21: POINT. -/
def answerPoint (body : List Byte) (s : State) : Answer :=
  let position := u32 body 0
  let periodMs := u16 body 4
  if !pointInRange s position periodMs then refuse .range s
  else if isFaulted s.trc.state || isScanning s.trc.state then refuse .state s
  else if !s.trc.homed || s.grs.active.isNone then refuse .notReady s
  else if !s.plx.interlock then refuse .interlock s
  else if s.bkm.state != .clear then refuse .breakActive s
  else pointByState position periodMs s

/-- R24: the four fault conditions end together. -/
def endFaultAlarms (s : State) : State :=
  endAlarm .homingFailed (endAlarm .overtravel (endAlarm .driveStall (endAlarm .driveCurrent s)))

/-- R24: CLEAR_FAULT. -/
def answerClearFault (s : State) : Answer :=
  if isFaulted s.trc.state then plain .done (endFaultAlarms (moveTo .stopped s)) else plain .done s

/-- R8: SET_DRIVE. -/
def answerSetDrive (body : List Byte) (s : State) : Answer :=
  let record := readDrive body
  if !record.inRange then refuse .range s
  else if s.trc.state != .stopped then refuse .state s
  else plain .done (s.modTrc fun t => { t with drive := record })

/-! ## Geometry and grades (R31, R32, R76, R79, R80, R88) -/

/-- R2, R32: in PARKED a new P moves the traverse to STOPPED. -/
def leaveOldPark (g : Geometry) (s : State) : State :=
  if s.trc.state == .parked && s.gtu.geometry.map Geometry.P != some g.P then moveTo .stopped s else s

/-- R31, R32: SET_GEOMETRY. -/
def answerSetGeometry (body : List Byte) (s : State) : Answer :=
  let g := readGeometry body
  if !g.inRange then refuse .range s
  else if !(s.trc.state == .stopped || s.trc.state == .parked) then refuse .state s
  else plain .done (motionTests (replaceGeometry g (leaveOldPark g s)))

/-- R76: LOAD_GRADE. A body that does not fit its walk has been refused before (R191). -/
def answerLoadGrade (body : List Byte) (s : State) : Answer :=
  match walkGrade body with
  | none => refuse .badLength s
  | some b =>
    if Config.gradeSlots ≤ b.slot || 3 < b.parts || !b.record.inRange then refuse .range s
    else if slotInUse s b.slot then refuse .slotInUse s
    else plain .done (s.modGrs fun g => { g with slots := g.slots.set b.slot (some b.record) })

/-- R80: a selection while SCANNING. -/
def selectScanning (slot : Nat) (s : State) : Answer :=
  if s.grs.active == some slot then plain .done (s.modGrs fun g => { g with staged := none })
  else plain .accepted (s.modGrs fun g => { g with staged := some slot })

/-- R79, R148: a selection outside SCANNING; a slot made active may let probing begin. -/
def selectNow (slot : Nat) (s : State) : Answer :=
  if s.grs.active == some slot then plain .done (s.modGrs fun g => { g with staged := none })
  else
    plain .done
      (motionTests
        (setReseed (nextMark s) (s.modGrs fun g => { g with active := some slot, staged := none })))

/-- R79, R80: SELECT_GRADE. -/
def answerSelectGrade (body : List Byte) (s : State) : Answer :=
  let slot := u8 body 0
  if Config.gradeSlots ≤ slot || (gradeIn s slot).isNone then refuse .range s
  else if isScanning s.trc.state then selectScanning slot s
  else selectNow slot s

/-- R88: READ_GRADE. -/
def answerReadGrade (body : List Byte) (s : State) : Answer :=
  let slot := u8 body 0
  if Config.gradeSlots ≤ slot then refuse .range s
  else
    match gradeIn s slot with
    | none => plain .empty s
    | some g => answered (gradeRecordBytes s slot g) s

/-! ## Profiles (R108, R109, R112, R115) -/

/-- R112: FETCH_SUMMARY. -/
def answerFetchSummary (s : State) : Answer :=
  match s.pfb.summaries with
  | [] => plain .empty s
  | x :: rest => answered (summaryRecord x) (s.modPfb fun p => { p with summaries := rest })

/-- R108: READ_PROFILE with its channel and set read; a count past the last zone is shortened. -/
def readProfileOf (ch : Channel) (set : ProfileSet) (body : List Byte) (s : State) : Answer :=
  match s.gtu.geometry with
  | none => refuse .notReady s
  | some g =>
    let first := u16 body 2
    if g.Z ≤ first then refuse .range s
    else
      answered
        (profileRecord s ch (u8 body 0) set (u8 body 1) first (min (u8 body 4) (g.Z - first))) s

/-- R108: READ_PROFILE. -/
def answerReadProfile (body : List Byte) (s : State) : Answer :=
  match channelOf (u8 body 0), profileSetOf (u8 body 1) with
  | some ch, some set =>
    if 1 ≤ u8 body 4 && u8 body 4 ≤ 120 then readProfileOf ch set body s else refuse .range s
  | _, _ => refuse .range s

/-- R115: READ_TREND. -/
def answerReadTrend (body : List Byte) (s : State) : Answer :=
  let count := u8 body 0
  if count == 0 || 64 < count then refuse .range s
  else if s.pfb.trend.isEmpty then plain .empty s
  else answered (trendRecord count s.pfb.trend) s

/-- R109: CLEAR_PROFILES; a probe scan it abandons may end probing (R153). -/
def answerClearProfiles (s : State) : Answer := plain .done (motionTests (clearProfiles s))

/-! ## Standardization (R119, R120, R122, R133) -/

/-- R119, R120: the settings record replaced; a countdown that is off is reloaded. -/
def replaceSettingsRecord (r : StdSettings) (u : Standardize) : Standardize :=
  { u with
    settings := r
    countdown := match u.countdown with
      | none => countdownFrom r.interval
      | some n => some n }

/-- R119: SET_STANDARDIZE. -/
def answerSetStandardize (body : List Byte) (s : State) : Answer :=
  let record := readStdSettings body
  if !record.inRange then refuse .range s
  else if isDwell s.trc.state then refuse .busy s
  else plain .done (s.modSdu (replaceSettingsRecord record))

/-- R122: STANDARDIZE. -/
def answerStandardize (s : State) : Answer :=
  if isPoint s.trc.state || isHoming s.trc.state || isFaulted s.trc.state then refuse .state s
  else if !s.trc.homed then refuse .notReady s
  else plain .accepted (motionTests (setWanted (clearHold s)))

/-- R133: READ_STANDARDIZE; building the reply clears STD_DONE. -/
def answerReadStandardize (s : State) : Answer :=
  answered (standardizeRecord s.sdu) (s.modSdu fun u => { u with stdDone := false })

/-! ## Breaks (R154 to R156) -/

/-- R154: SET_BREAK. -/
def answerSetBreak (body : List Byte) (s : State) : Answer :=
  let delay := u16 body 0
  if delay < 5 || 600 < delay then refuse .range s
  else plain .done (s.modBkm fun b => { b with recoveryDelay := delay })

/-- R155: READ_BREAK. -/
def answerReadBreak (s : State) : Answer := answered (breakRecord s.bkm) s

/-- R156: CLEAR_BREAK_CAUSE. -/
def answerClearBreakCause (s : State) : Answer :=
  if s.bkm.state == .clear then plain .done (s.modBkm fun b => { b with cause := none })
  else refuse .breakActive s

/-! ## Alarms and lines (R161, R162, R170 to R173) -/

/-- R162: READ_ALARMS; building the reply clears ALARM_NEW. -/
def answerReadAlarms (s : State) : Answer :=
  let seen := s.modPlx fun p => { p with alarmNew := false }
  if s.plx.alarms.isEmpty then plain .empty seen else answered (alarmsRecord s.plx.alarms) seen

/-- R161: ACK_ALARM of the kinds a test selects. -/
def acknowledge (selects : AlarmKind → Bool) (s : State) : Answer :=
  plain .done (s.modPlx fun p => { p with alarms := ackIn selects p.alarms })

/-- R161: ACK_ALARM. -/
def answerAckAlarm (body : List Byte) (s : State) : Answer :=
  if u8 body 0 == 0xFF then acknowledge (fun _ => true) s
  else
    match alarmKindOf (u8 body 0) with
    | some kind => acknowledge (fun k => k == kind) s
    | none => refuse .range s

/-- R171, R172: SET_LINES. -/
def answerSetLines (body : List Byte) (s : State) : Answer :=
  match readLineRecord body with
  | none => refuse .range s
  | some r => plain .done (setLines r s)

/-- R173: READ_LINES; building the reply clears the change latches. -/
def answerReadLines (s : State) : Answer :=
  answered (linesRecord s)
    (s.modPlx fun p => { p with inputs := p.inputs.map fun l => { l with change := false } })

/-- R170: DRIVE_OUTPUTS. -/
def answerDriveOutputs (body : List Byte) (s : State) : Answer :=
  if 64 ≤ u8 body 0 || 64 ≤ u8 body 1 then refuse .range s
  else plain .done (s.modPlx (driveOutputs (u8 body 0) (u8 body 1)))

/-! ## The owner of each kind -/

/-- R179 step 3: the owning block's checks and actions. -/
def answerTo (kind : ReqKind) (body : List Byte) (s : State) : Answer :=
  match kind with
  | .identify => answerIdentify s
  | .status => answerStatus s
  | .service => answerService body s
  | .resetPart => answerResetPart s
  | .home => answerHome s
  | .scan => answerScan body s
  | .park => answerPark s
  | .stop => answerStop s
  | .point => answerPoint body s
  | .clearFault => answerClearFault s
  | .setDrive => answerSetDrive body s
  | .setGeometry => answerSetGeometry body s
  | .loadGrade => answerLoadGrade body s
  | .selectGrade => answerSelectGrade body s
  | .readGrade => answerReadGrade body s
  | .fetchSummary => answerFetchSummary s
  | .readProfile => answerReadProfile body s
  | .readTrend => answerReadTrend body s
  | .clearProfiles => answerClearProfiles s
  | .setStandardize => answerSetStandardize body s
  | .standardize => answerStandardize s
  | .readStandardize => answerReadStandardize s
  | .setBreak => answerSetBreak body s
  | .readBreak => answerReadBreak s
  | .clearBreakCause => answerClearBreakCause s
  | .readAlarms => answerReadAlarms s
  | .ackAlarm => answerAckAlarm body s
  | .setLines => answerSetLines body s
  | .readLines => answerReadLines s
  | .driveOutputs => answerDriveOutputs body s

end Sys2Proof.Machine
end

