-- ==== Sys2Proof/Machine/Link.lean ====
section
/-! DEFINITION. The link port: check value, frames, acceptance, dispatch, replies, the receiver, the silence timer and both resets (09, 10). -/

namespace Sys2Proof.Machine

/-! ## The check value (R176) -/

/-- R176: one bit of the check value. -/
def crcBit (incoming : Bool) (crc : BitVec 16) : BitVec 16 :=
  if crc.msb != incoming then (crc <<< 1) ^^^ 0x1021#16 else crc <<< 1

/-- R176: one byte of the check value, most significant bit first. -/
def crcByte (crc : BitVec 16) (b : Byte) : BitVec 16 :=
  [7, 6, 5, 4, 3, 2, 1, 0].foldl (fun c i => crcBit (b.getLsbD i) c) crc

/-- R176: the check value of the covered bytes. -/
def crc16 (bytes : List Byte) : BitVec 16 := bytes.foldl crcByte 0xFFFF#16

/-! ## Frames (R176, R190) -/

/-- R176: the bytes of a frame that its check value covers, in the order they are sent. -/
def coveredBytes (address : Byte) (kind : Nat) (tag : Byte) (body : List Byte) : List Byte :=
  [address, byteOf kind, tag] ++ le16 body.length ++ body

/-- R176: the two bytes of the check value, low byte first. -/
def crcBytes (bytes : List Byte) : List Byte := le16 (crc16 bytes).toNat

/-- R176: a whole frame. -/
def frameBytes (address : Byte) (kind : Nat) (tag : Byte) (body : List Byte) : List Byte :=
  let covered := coveredBytes address kind tag body
  Config.sync :: covered ++ crcBytes covered

/-! ## Dispatch and replies (R178 to R181) -/

/-- R178, R184: the frame effects of a good request frame that is taken: the silence timer restarts and LINK_LOST ends. -/
def frameTaken (s : State) : State :=
  endAlarm .linkLost (s.modSlp fun p => { p with silence := silenceFrom p.silenceTimeout })

/-- R179: the checks of the dispatch, then the owner. -/
def dispatch (kind : Nat) (body : List Byte) (s : State) : Answer :=
  match kindOf kind with
  | none => refuse .unknownKind s
  | some k => if bodyFits k body then answerTo k body s else refuse .badLength s

/-- R181, R190: the body of a reply: the prefix, formed from the state the request leaves, then the record. -/
def replyBody (a : Answer) : List Byte :=
  [byteOf (replyCode a.code), byteOf (attention a.state), byteOf (traverseCode a.state.trc.state)
   , byteOf (breakCode a.state.bkm.state)] ++ a.record

/-- R181: the reply frame of an answer. -/
def replyFrame (kind : Nat) (tag : Byte) (a : Answer) : List Byte :=
  frameBytes (byteOf a.state.slp.address) (kind + 0x80) tag (replyBody a)

/-- R181, R182: the reply is built and the port becomes REPLYING. -/
def holdReply (kind : Nat) (tag : Byte) (a : Answer) : State :=
  a.state.modSlp fun p =>
    { p with port := .replying (replyFrame kind tag a), transmitting := false, replyWait := some 0 }

/-- R179: an addressed request. -/
def takeAddressed (kind : Nat) (f : Frame) (s : State) : State :=
  holdReply kind f.tag (dispatch kind f.body s)

/-- R180: a broadcast: acted on for SERVICE, STOP and PARK with a fitting body, never answered. -/
def takeBroadcast (kind : Nat) (body : List Byte) (s : State) : State :=
  match kindOf kind with
  | none => s
  | some k => if actsOnBroadcast k && bodyFits k body then (answerTo k body s).state else s

/-- R178: the treatment of a good frame by port state, kind and address. -/
def acceptFrame (kind : Nat) (f : Frame) (s : State) : State :=
  match s.slp.port with
  | .replying _ => s
  | .listening =>
    if 0x80 ≤ kind then s
    else if f.address.toNat == Config.broadcastAddress then takeBroadcast kind f.body (frameTaken s)
    else if f.address.toNat == s.slp.address then takeAddressed kind f (frameTaken s)
    else s

/-! ## The receiver (R177) -/

/-- R177: the length field of a frame in the buffer, once its second byte is in. -/
def lengthField (buffer : List Byte) : Nat := u16 buffer 3

/-- R177: the frame a complete buffer holds. -/
def frameOf (buffer : List Byte) : Frame :=
  { address := buffer.getD 0 0, tag := buffer.getD 2 0
    body := (buffer.drop 5).take (lengthField buffer) }

/-- R177: the check value received equals the one computed. -/
def crcMatches (buffer : List Byte) : Bool :=
  let covered := buffer.take (5 + lengthField buffer)
  (crc16 covered).toNat == u16 buffer (5 + lengthField buffer)

/-- What the buffer amounts to after a byte. -/
inductive FrameProgress where
  | incomplete
  | oversized
  | complete
  deriving DecidableEq, Repr

/-- R177: the progress of the frame in the buffer. -/
def frameProgress (buffer : List Byte) : FrameProgress :=
  if buffer.length < 5 then .incomplete
  else if Config.maxBody < lengthField buffer then .oversized
  else if buffer.length < lengthField buffer + 7 then .incomplete
  else .complete

/-- Set the receiver. -/
def setReceiver (r : Receiver) (s : State) : State := s.modSlp fun p => { p with receiver := r }

/-- R177: a character taken in HUNTING. -/
def huntCharacter (byte : Byte) (framingError : Bool) (s : State) : State :=
  setReceiver (if !framingError && byte == Config.sync then .inFrame [] else .hunting) s

/-- R177: a byte appended in IN_FRAME; the last one of a good frame hands it to the acceptance rule in the same event. -/
def appendCharacter (buffer : List Byte) (s : State) : State :=
  match frameProgress buffer with
  | .incomplete => setReceiver (.inFrame buffer) s
  | .oversized => setReceiver .hunting s
  | .complete =>
    if crcMatches buffer then
      acceptFrame (u8 buffer 1) (frameOf buffer) (setReceiver .hunting s)
    else setReceiver .hunting s

/-- CHARACTER_RECEIVED as one event (R177). -/
def characterReceived (byte : Byte) (framingError : Bool) (gapUs : Nat) (s : State) : State :=
  match s.slp.receiver with
  | .hunting => huntCharacter byte framingError s
  | .inFrame buffer =>
    if Config.interByteGapUs < gapUs then huntCharacter byte framingError s
    else if framingError then setReceiver .hunting s
    else appendCharacter (buffer ++ [byte]) s

/-- LINE_BREAK as one event: the frame being received is discarded (R177). -/
def lineBreak (s : State) : State := setReceiver .hunting s

/-! ## Resets (R29, R48, R52, R89, R116, R137, R157, R174, R189) -/

/-- The raw levels of the eight input lines. -/
def rawLevels (s : State) : List Bool := s.plx.inputs.map InputLine.raw

/-- POWER_ON_RESET: every block takes its power-on values. The straps are sampled and the contacts keep their raw levels. -/
def powerOn (straps : Straps) (s : State) : State :=
  { State.reset with
    trc := .fresh .powerOn s.trc.home.raw s.trc.backLimit.raw s.trc.frontLimit.raw
    gtu := .fresh none s.sdu.confirm.raw
    sdu := .powerOn s.sdu.confirm.raw
    plx := .powerOn (rawLevels s)
    slp := .powerOn straps.address straps.baud
    pending := s.pending }

/-- R89: the grade store after a part reset. -/
def resetGrades (g : GradeStore) : GradeStore := { g with staged := none, pins := [] }

/-- R137: the standardize unit after a part reset. -/
def resetStandardize (u : Standardize) : Standardize :=
  { Standardize.powerOn u.confirm.raw with
    refs := u.refs, settings := u.settings, countdown := countdownFrom u.settings.interval
    bw := u.bw, moi := u.moi, cal := u.cal }

/-- R157: the break monitor after a part reset. -/
def resetBreak (b : BreakMonitor) : BreakMonitor :=
  { BreakMonitor.powerOn with
    cause := b.cause, recoveryDelay := b.recoveryDelay, lastProbe := b.lastProbe
    failedProbes := b.failedProbes }

/-- R174: the alarm and line unit after a part reset. -/
def resetLines (p : LineUnit) : LineUnit :=
  let inputs := p.inputs.map fun l => InputLine.fresh l.setting l.raw
  { alarms := [], alarmNew := false, inputs := inputs, outputs := p.outputs, scanToggle := false
    interlock := interlockFormed inputs }

/-- R188, R189: the link port after a part reset. -/
def resetLink (straps : Straps) (p : LinkPort) : LinkPort :=
  { LinkPort.powerOn straps.address straps.baud with
    silenceTimeout := p.silenceTimeout, silence := silenceFrom p.silenceTimeout
    resetCause := .partReset }

/-- R188: a part reset: every block takes its part-reset values and the straps are sampled. -/
def partReset (straps : Straps) (s : State) : State :=
  { trc := .fresh s.trc.drive s.trc.home.raw s.trc.backLimit.raw s.trc.frontLimit.raw
    gtu := .fresh s.gtu.geometry s.sdu.confirm.raw
    cve := .fresh
    grs := resetGrades s.grs
    pfb := .fresh ((s.gtu.geometry.map Geometry.slotCount).getD 0) ((s.gtu.geometry.map Geometry.Z).getD 0)
    sdu := resetStandardize s.sdu
    bkm := resetBreak s.bkm
    plx := resetLines s.plx
    slp := resetLink straps s.slp
    pending := s.pending }

/-! ## The reply on the line (R182, R188) -/

/-- A reply waits to start. -/
def replyWaits (p : LinkPort) : Bool :=
  match p.port with
  | .replying _ => !p.transmitting
  | .listening => false

/-- REPLY_START as one event: the transmitter enable is asserted and the reply begins (R182). -/
def replyStart (s : State) : State :=
  if replyWaits s.slp then s.modSlp fun p => { p with transmitting := true, replyWait := none } else s

/-- R182: the port becomes LISTENING. -/
def listenAgain (s : State) : State :=
  s.modSlp fun p => { p with port := .listening, transmitting := false, replyWait := none }

/-- REPLY_END as one event: the port becomes LISTENING, and a pending part reset takes effect (R182, R188). -/
def replyEnd (straps : Straps) (s : State) : State :=
  if s.slp.transmitting then
    if s.slp.resetPending then partReset straps (listenAgain s) else listenAgain s
  else s

/-! ## The silence timer (R184) -/

/-- SILENCE_TIMEOUT as one event: LINK_LOST, a park order, the timer STOPPED (R184). -/
def silenceTimeout (s : State) : State :=
  match s.slp.silence with
  | none => s
  | some _ =>
    motionTests
      (parkOrder
        (raiseAlarm .linkLost s.slp.silenceTimeout (s.modSlp fun p => { p with silence := none })))

end Sys2Proof.Machine
end

