-- ==== Sys2Proof/Machine/RequestCommands.lean ====
section
/-! DEFINITION. The commands that are frames of the link: one definition per request kind, and the frames of an unknown kind and those ignored (09, R178 to R180). A request arrives as a good frame; its owner's rule is named. -/

namespace Sys2Proof.Machine

/-- A command that completes. -/
abbrev Completed := Host.Outcome State Fault Refusal

/-- The event in which a good frame of a request kind completes (R178). -/
def takeRequest (kind : ReqKind) (f : Frame) (s : State) : State := acceptFrame (kindCode kind) f s

/-- IDENTIFY (R186). -/
def execIdentify (f : Frame) (s : State) : Completed := .next (takeRequest .identify f s)

/-- STATUS (R187). -/
def execStatus (f : Frame) (s : State) : Completed := .next (takeRequest .status f s)

/-- SERVICE (R185). -/
def execService (f : Frame) (s : State) : Completed := .next (takeRequest .service f s)

/-- RESET_PART (R188). -/
def execResetPart (f : Frame) (s : State) : Completed := .next (takeRequest .resetPart f s)

/-- HOME (R13, R14). -/
def execHome (f : Frame) (s : State) : Completed := .next (takeRequest .home f s)

/-- SCAN (R16, R150). -/
def execScan (f : Frame) (s : State) : Completed := .next (takeRequest .scan f s)

/-- PARK (R19). -/
def execPark (f : Frame) (s : State) : Completed := .next (takeRequest .park f s)

/-- STOP (R20). -/
def execStop (f : Frame) (s : State) : Completed := .next (takeRequest .stop f s)

/-- POINT (R21). -/
def execPoint (f : Frame) (s : State) : Completed := .next (takeRequest .point f s)

/-- CLEAR_FAULT (R24). -/
def execClearFault (f : Frame) (s : State) : Completed := .next (takeRequest .clearFault f s)

/-- SET_DRIVE (R8). -/
def execSetDrive (f : Frame) (s : State) : Completed := .next (takeRequest .setDrive f s)

/-- SET_GEOMETRY (R31, R32). -/
def execSetGeometry (f : Frame) (s : State) : Completed := .next (takeRequest .setGeometry f s)

/-- LOAD_GRADE (R76). -/
def execLoadGrade (f : Frame) (s : State) : Completed := .next (takeRequest .loadGrade f s)

/-- SELECT_GRADE (R79, R80). -/
def execSelectGrade (f : Frame) (s : State) : Completed := .next (takeRequest .selectGrade f s)

/-- READ_GRADE (R88). -/
def execReadGrade (f : Frame) (s : State) : Completed := .next (takeRequest .readGrade f s)

/-- FETCH_SUMMARY (R112). -/
def execFetchSummary (f : Frame) (s : State) : Completed := .next (takeRequest .fetchSummary f s)

/-- READ_PROFILE (R108). -/
def execReadProfile (f : Frame) (s : State) : Completed := .next (takeRequest .readProfile f s)

/-- READ_TREND (R115). -/
def execReadTrend (f : Frame) (s : State) : Completed := .next (takeRequest .readTrend f s)

/-- CLEAR_PROFILES (R109). -/
def execClearProfiles (f : Frame) (s : State) : Completed := .next (takeRequest .clearProfiles f s)

/-- SET_STANDARDIZE (R119). -/
def execSetStandardize (f : Frame) (s : State) : Completed := .next (takeRequest .setStandardize f s)

/-- STANDARDIZE (R122). -/
def execStandardize (f : Frame) (s : State) : Completed := .next (takeRequest .standardize f s)

/-- READ_STANDARDIZE (R133). -/
def execReadStandardize (f : Frame) (s : State) : Completed := .next (takeRequest .readStandardize f s)

/-- SET_BREAK (R154). -/
def execSetBreak (f : Frame) (s : State) : Completed := .next (takeRequest .setBreak f s)

/-- READ_BREAK (R155). -/
def execReadBreak (f : Frame) (s : State) : Completed := .next (takeRequest .readBreak f s)

/-- CLEAR_BREAK_CAUSE (R156). -/
def execClearBreakCause (f : Frame) (s : State) : Completed := .next (takeRequest .clearBreakCause f s)

/-- READ_ALARMS (R162). -/
def execReadAlarms (f : Frame) (s : State) : Completed := .next (takeRequest .readAlarms f s)

/-- ACK_ALARM (R161). -/
def execAckAlarm (f : Frame) (s : State) : Completed := .next (takeRequest .ackAlarm f s)

/-- SET_LINES (R171, R172). -/
def execSetLines (f : Frame) (s : State) : Completed := .next (takeRequest .setLines f s)

/-- READ_LINES (R173). -/
def execReadLines (f : Frame) (s : State) : Completed := .next (takeRequest .readLines f s)

/-- DRIVE_OUTPUTS (R170). -/
def execDriveOutputs (f : Frame) (s : State) : Completed := .next (takeRequest .driveOutputs f s)

/-- UNKNOWN_KIND_REQUEST: a request frame whose kind is not one of the table (R178, R179). -/
def execUnknownKindRequest (kind : Byte) (f : Frame) (s : State) : Completed :=
  .next (acceptFrame kind.toNat f s)

/-- IGNORED_FRAME: a good frame that is discarded, ignored, or not acted on as a broadcast (R178, R180, R182). -/
def execIgnoredFrame (kind : Byte) (f : Frame) (s : State) : Completed :=
  .next (acceptFrame kind.toNat f s)

end Sys2Proof.Machine
end

