-- ==== Sys2Proof/Machine/Time.lean ====
section
/-! DEFINITION. The timebase: what one idle step does. Either a timer has come to its time, and its event is issued as a command, or every running timer moves on by one microsecond (log 1). -/

namespace Sys2Proof.Machine

/-! ## One microsecond -/

/-- A timer that counts up while it runs. -/
def countUp (timer : Option Nat) : Option Nat := timer.map (· + 1)

/-- A timer that counts down while it runs. -/
def countDown (timer : Option Nat) : Option Nat := timer.map (· - 1)

/-- R3: the debounce of a contact moves on. -/
def Debounced.tick (d : Debounced) : Debounced := { d with timer := countUp d.timer }

/-- The timers of the traverse controller. -/
def Traverse.tick (t : Traverse) : Traverse :=
  { t with
    windowPhase := t.windowPhase + 1, offTime := countDown t.offTime
    homingTimer := countUp t.homingTimer
    home := t.home.tick, backLimit := t.backLimit.tick, frontLimit := t.frontLimit.tick
    pwmPhase := t.pwmPhase + 1, loopPhase := t.loopPhase + 1 }

/-- R39, R46, R47: the timers of the gate unit; the gate timer saturates. -/
def GateUnit.tick (g : GateUnit) : GateUnit :=
  { g with
    gateTimer := min Config.counterMax (g.gateTimer + 1)
    pointTimer := countUp g.pointTimer, subGateTimer := countUp g.subGateTimer }

/-- R135: the shutter window runs while the supervision is SETTLING. -/
def Standardize.tick (u : Standardize) : Standardize :=
  { u with
    window := if u.supervision == .settling then u.window + 1 else u.window
    confirm := u.confirm.tick }

/-- R147: the recovery delay counts down while RUNNING. -/
def BreakMonitor.tick (b : BreakMonitor) : BreakMonitor :=
  { b with
    state := match b.state with
      | .waiting (.running us) => .waiting (.running (us - 1))
      | other => other }

/-- R163: a stability timer counts to 255 ms while the raw level is not the debounced level, and is held at 0 otherwise. -/
def InputLine.tick (l : InputLine) : InputLine :=
  { l with timer := if l.high == some l.raw then 0 else min 255000 (l.timer + 1) }

/-- R182, R184: the timers of the link port. -/
def LinkPort.tick (p : LinkPort) : LinkPort :=
  { p with silence := countDown p.silence, replyWait := countUp p.replyWait }

/-- One microsecond of the timebase. -/
def oneMicrosecond (s : State) : State :=
  { s with
    trc := s.trc.tick, gtu := s.gtu.tick, sdu := s.sdu.tick, bkm := s.bkm.tick
    plx := { s.plx with inputs := s.plx.inputs.map InputLine.tick }
    slp := s.slp.tick }

/-! ## Events that are due -/

/-- A command when a test holds. -/
def dueIf (test : Bool) (c : Instr) : List Instr := if test then [c] else []

/-- A timer that counts up has reached its time. -/
def reached (timer : Option Nat) (us : Nat) : Bool := timer.any fun t => us ≤ t

/-- R3, R135: the contacts whose 2 ms have passed. -/
def dueContacts (s : State) : List Instr :=
  dueIf (reached s.trc.home.timer Config.switchDebounceUs) (.frameSwitchSettled .home)
    ++ dueIf (reached s.trc.backLimit.timer Config.switchDebounceUs) (.frameSwitchSettled .backLimit)
    ++ dueIf (reached s.trc.frontLimit.timer Config.switchDebounceUs) (.frameSwitchSettled .frontLimit)
    ++ dueIf (reached s.sdu.confirm.timer Config.switchDebounceUs) .shutterConfirmSettled

/-- R163: the input lines whose debounce time has passed, lowest first. -/
def dueLines (s : State) : List Instr :=
  ((List.finRange 8).filter fun i => (s.plx.inputs[i.val]?).any lineDue).map Instr.inputDebounceExpiry

/-- R4 to R7, R13: the events of the drive and of the traverse timers. -/
def dueDrive (t : Traverse) : List Instr :=
  dueIf (t.offTime == some 0) .offTimeEnd
    ++ dueIf (Config.pwmPeriodUs ≤ t.pwmPhase) .pwmPeriodStart
    ++ dueIf (Config.tripWindowUs ≤ t.windowPhase) .tripWindowEnd
    ++ dueIf (reached t.homingTimer Config.homingUs && isHoming t.state) .homingTimeout
    ++ dueIf (Config.loopPeriodUs ≤ t.loopPhase) .speedLoopRun
    ++ dueIf (Config.stallMs ≤ t.stallMs && loopRuns t.state) .stallTimeout

/-- R46: the point timer has reached the gate period. -/
def pointDue (s : State) : Bool :=
  match s.trc.state with
  | .point _ periodMs => reached s.gtu.pointTimer (periodMs * 1000)
  | _ => false

/-- R47, R135, R147: the events of the gates, the shutter window and the recovery delay. -/
def dueGates (s : State) : List Instr :=
  dueIf (s.sdu.supervision == .settling && Config.shutterWindowUs ≤ s.sdu.window) .shutterWindowExpiry
    ++ dueIf (pointDue s) .pointTimerExpiry
    ++ dueIf (reached s.gtu.subGateTimer Config.subGateUs && s.sdu.dwell.isSome) .subGateExpiry
    ++ dueIf (s.bkm.state == .waiting (.running 0)) .recoveryDelayExpiry

/-- R182, R184: the events of the link port; a reply starts at its deadline at the latest. -/
def dueLink (p : LinkPort) : List Instr :=
  dueIf (p.silence == some 0) .silenceTimeout
    ++ dueIf (replyWaits p && reached p.replyWait Config.replyDeadlineUs) .replyStart

/-- Every event whose time has come, in the order in which the idle step issues them (log 19). -/
def dueEvents (s : State) : List Instr :=
  dueContacts s ++ dueLines s ++ dueDrive s.trc ++ dueGates s ++ dueLink s.slp

/-- One idle step: the first due event is put in the queue, or one microsecond passes. -/
def idle (s : State) : State :=
  match dueEvents s with
  | c :: _ => { s with pending := [c] }
  | [] => oneMicrosecond s

end Sys2Proof.Machine
end

