-- ==== Sys2Proof/Machine/EventCommands.lean ====
section
/-! DEFINITION. The commands that are events of the plant wiring, the line, the timers and the conversion engine: one definition per row. An event whose timer does not run or whose job is not in the engine cannot occur, and changes nothing (logs 2 and 25). -/

namespace Sys2Proof.Machine

/-- R147, R148: the recovery delay reaches 0 while RUNNING; the tests that may begin probing follow. -/
def recoveryDelayExpiry (s : State) : State :=
  match s.bkm.state with
  | .waiting (.running _) => motionTests (expireDelay s)
  | _ => s

/-- POWER_ON_RESET (R189, R29, R48, R52, R89, R116, R137, R157, R174). -/
def execPowerOnReset (straps : Straps) (s : State) : Completed :=
  .next (powerOn straps s)

/-- LINE_BREAK (R177). -/
def execLineBreak (s : State) : Completed :=
  .next (lineBreak s)

/-- REPLY_START (R182). -/
def execReplyStart (s : State) : Completed :=
  .next (replyStart s)

/-- REPLY_END (R182, R188). -/
def execReplyEnd (straps : Straps) (s : State) : Completed :=
  .next (replyEnd straps s)

/-- SILENCE_TIMEOUT (R184). -/
def execSilenceTimeout (s : State) : Completed :=
  .next (silenceTimeout s)

/-- PWM_PERIOD_START (R4). -/
def execPwmPeriodStart (s : State) : Completed :=
  .next (s.modTrc pwmPeriodStart)

/-- SPEED_LOOP_RUN (R2, R5, R7, R10, R12, R14). -/
def execSpeedLoopRun (s : State) : Completed :=
  .next (speedLoopRun s)

/-- STALL_TIMEOUT (R7). -/
def execStallTimeout (s : State) : Completed :=
  .next (stallTimeout s)

/-- HOMING_TIMEOUT (R14). -/
def execHomingTimeout (s : State) : Completed :=
  .next (homingTimeout s)

/-- CURRENT_TRIP (R6). -/
def execCurrentTrip (s : State) : Completed :=
  .next (currentTrip s)

/-- OFF_TIME_END (R6). -/
def execOffTimeEnd (s : State) : Completed :=
  .next (s.modTrc offTimeEnd)

/-- TRIP_WINDOW_END (R6). -/
def execTripWindowEnd (s : State) : Completed :=
  .next (s.modTrc tripWindowEnd)

/-- ENCODER_EDGE (R2, R9, R34 to R37). -/
def execEncoderEdge (towardsFront : Bool) (s : State) : Completed :=
  .next (encoderEdge towardsFront s)

/-- FRAME_SWITCH_RAW_CHANGE (R3). -/
def execFrameSwitchRawChange (switch : FrameSwitch) (active : Bool) (s : State) : Completed :=
  .next (s.modTrc (switchRawChange switch active))

/-- FRAME_SWITCH_SETTLED (R3, R14). -/
def execFrameSwitchSettled (switch : FrameSwitch) (s : State) : Completed :=
  .next (switchSettled switch s)

/-- HEAD_PULSE (R38). -/
def execHeadPulse (input : HeadInput) (s : State) : Completed :=
  .next (headPulse input s)

/-- POINT_TIMER_EXPIRY (R46). -/
def execPointTimerExpiry (s : State) : Completed :=
  .next (pointTimerExpiry s)

/-- SUB_GATE_EXPIRY (R47, R125, R127). -/
def execSubGateExpiry (s : State) : Completed :=
  .next (subGateExpiry s)

/-- SAMPLE_JOB_COMPLETE (R67). -/
def execSampleJobComplete (s : State) : Completed :=
  .next (sampleJobComplete s)

/-- PASS_CHUNK_COMPLETE (R70, R97). -/
def execPassChunkComplete (s : State) : Completed :=
  .next (passChunkComplete s)

/-- RECOVERY_DELAY_EXPIRY (R147, R148). -/
def execRecoveryDelayExpiry (s : State) : Completed :=
  .next (recoveryDelayExpiry s)

/-- EVALUATION_COMPLETE (R129 to R131). -/
def execEvaluationComplete (s : State) : Completed :=
  .next (evaluationComplete s)

/-- SHUTTER_CONFIRM_RAW_CHANGE (R135). -/
def execShutterConfirmRawChange (active : Bool) (s : State) : Completed :=
  .next (s.modSdu fun u => { u with confirm := rawChange active u.confirm })

/-- SHUTTER_CONFIRM_SETTLED (R135). -/
def execShutterConfirmSettled (s : State) : Completed :=
  .next (confirmSettled s)

/-- SHUTTER_WINDOW_EXPIRY (R135, R136). -/
def execShutterWindowExpiry (s : State) : Completed :=
  .next (windowExpiry s)

/-- INPUT_RAW_CHANGE (R163). -/
def execInputRawChange (line : Fin 8) (high : Bool) (s : State) : Completed :=
  .next (inputRawChange line high s)

/-- INPUT_DEBOUNCE_EXPIRY (R163 to R168). -/
def execInputDebounceExpiry (line : Fin 8) (s : State) : Completed :=
  .next (takeLevel line s)

/-- CHARACTER_RECEIVED (R177). -/
def execCharacterReceived (byte : Byte) (framingError : Bool) (gapUs : Nat) (s : State) : Completed :=
  .next (characterReceived byte framingError gapUs s)

end Sys2Proof.Machine
end

