-- ==== Sys2Proof/Machine/Dispatch.lean ====
section
/-! DEFINITION. One arm per command, each one direct call of its meaning. -/

namespace Sys2Proof.Machine

/-- The effect of a command on everything but the queue of waiting commands. -/
def exec (i : Instr) (s : State) : Host.Outcome State Fault Refusal :=
  match i with
  | .powerOnReset straps => Sys2Proof.Machine.execPowerOnReset straps s
  | .identify frame => Sys2Proof.Machine.execIdentify frame s
  | .status frame => Sys2Proof.Machine.execStatus frame s
  | .service frame => Sys2Proof.Machine.execService frame s
  | .resetPart frame => Sys2Proof.Machine.execResetPart frame s
  | .home frame => Sys2Proof.Machine.execHome frame s
  | .scan frame => Sys2Proof.Machine.execScan frame s
  | .park frame => Sys2Proof.Machine.execPark frame s
  | .stop frame => Sys2Proof.Machine.execStop frame s
  | .point frame => Sys2Proof.Machine.execPoint frame s
  | .clearFault frame => Sys2Proof.Machine.execClearFault frame s
  | .setDrive frame => Sys2Proof.Machine.execSetDrive frame s
  | .setGeometry frame => Sys2Proof.Machine.execSetGeometry frame s
  | .loadGrade frame => Sys2Proof.Machine.execLoadGrade frame s
  | .selectGrade frame => Sys2Proof.Machine.execSelectGrade frame s
  | .readGrade frame => Sys2Proof.Machine.execReadGrade frame s
  | .fetchSummary frame => Sys2Proof.Machine.execFetchSummary frame s
  | .readProfile frame => Sys2Proof.Machine.execReadProfile frame s
  | .readTrend frame => Sys2Proof.Machine.execReadTrend frame s
  | .clearProfiles frame => Sys2Proof.Machine.execClearProfiles frame s
  | .setStandardize frame => Sys2Proof.Machine.execSetStandardize frame s
  | .standardize frame => Sys2Proof.Machine.execStandardize frame s
  | .readStandardize frame => Sys2Proof.Machine.execReadStandardize frame s
  | .setBreak frame => Sys2Proof.Machine.execSetBreak frame s
  | .readBreak frame => Sys2Proof.Machine.execReadBreak frame s
  | .clearBreakCause frame => Sys2Proof.Machine.execClearBreakCause frame s
  | .readAlarms frame => Sys2Proof.Machine.execReadAlarms frame s
  | .ackAlarm frame => Sys2Proof.Machine.execAckAlarm frame s
  | .setLines frame => Sys2Proof.Machine.execSetLines frame s
  | .readLines frame => Sys2Proof.Machine.execReadLines frame s
  | .driveOutputs frame => Sys2Proof.Machine.execDriveOutputs frame s
  | .unknownKindRequest kind frame => Sys2Proof.Machine.execUnknownKindRequest kind frame s
  | .ignoredFrame kind frame => Sys2Proof.Machine.execIgnoredFrame kind frame s
  | .lineBreak => Sys2Proof.Machine.execLineBreak s
  | .replyStart => Sys2Proof.Machine.execReplyStart s
  | .replyEnd straps => Sys2Proof.Machine.execReplyEnd straps s
  | .silenceTimeout => Sys2Proof.Machine.execSilenceTimeout s
  | .pwmPeriodStart => Sys2Proof.Machine.execPwmPeriodStart s
  | .speedLoopRun => Sys2Proof.Machine.execSpeedLoopRun s
  | .stallTimeout => Sys2Proof.Machine.execStallTimeout s
  | .homingTimeout => Sys2Proof.Machine.execHomingTimeout s
  | .currentTrip => Sys2Proof.Machine.execCurrentTrip s
  | .offTimeEnd => Sys2Proof.Machine.execOffTimeEnd s
  | .tripWindowEnd => Sys2Proof.Machine.execTripWindowEnd s
  | .encoderEdge towardsFront => Sys2Proof.Machine.execEncoderEdge towardsFront s
  | .frameSwitchRawChange switch active => Sys2Proof.Machine.execFrameSwitchRawChange switch active s
  | .frameSwitchSettled switch => Sys2Proof.Machine.execFrameSwitchSettled switch s
  | .headPulse input => Sys2Proof.Machine.execHeadPulse input s
  | .pointTimerExpiry => Sys2Proof.Machine.execPointTimerExpiry s
  | .subGateExpiry => Sys2Proof.Machine.execSubGateExpiry s
  | .sampleJobComplete => Sys2Proof.Machine.execSampleJobComplete s
  | .passChunkComplete => Sys2Proof.Machine.execPassChunkComplete s
  | .recoveryDelayExpiry => Sys2Proof.Machine.execRecoveryDelayExpiry s
  | .evaluationComplete => Sys2Proof.Machine.execEvaluationComplete s
  | .shutterConfirmRawChange active => Sys2Proof.Machine.execShutterConfirmRawChange active s
  | .shutterConfirmSettled => Sys2Proof.Machine.execShutterConfirmSettled s
  | .shutterWindowExpiry => Sys2Proof.Machine.execShutterWindowExpiry s
  | .inputRawChange line high => Sys2Proof.Machine.execInputRawChange line high s
  | .inputDebounceExpiry line => Sys2Proof.Machine.execInputDebounceExpiry line s
  | .characterReceived byte framingError gapUs => Sys2Proof.Machine.execCharacterReceived byte framingError gapUs s

end Sys2Proof.Machine
end

