-- ==== Sys2Proof/Safety.lean ====
section
/-! DEFINITION. What a good state is, in the words the statements use: invariants that every step keeps, and the form of an answered request. -/

namespace Sys2Proof.Machine

/-! ## Requests and their replies -/

/-- A good frame that is taken as an addressed request (R178). -/
abbrev Addressed (f : Frame) (s : State) : Prop :=
  s.slp.port = .listening ∧ f.address.toNat = s.slp.address ∧ s.slp.address ≠ 15

/-- A good frame that is taken as a broadcast (R178). -/
abbrev Broadcasts (f : Frame) (s : State) : Prop := s.slp.port = .listening ∧ f.address.toNat = 15

/-- The command of each request kind. -/
def requestOf : ReqKind → Frame → Instr
  | .identify => .identify
  | .status => .status
  | .service => .service
  | .resetPart => .resetPart
  | .home => .home
  | .scan => .scan
  | .park => .park
  | .stop => .stop
  | .point => .point
  | .clearFault => .clearFault
  | .setDrive => .setDrive
  | .setGeometry => .setGeometry
  | .loadGrade => .loadGrade
  | .selectGrade => .selectGrade
  | .readGrade => .readGrade
  | .fetchSummary => .fetchSummary
  | .readProfile => .readProfile
  | .readTrend => .readTrend
  | .clearProfiles => .clearProfiles
  | .setStandardize => .setStandardize
  | .standardize => .standardize
  | .readStandardize => .readStandardize
  | .setBreak => .setBreak
  | .readBreak => .readBreak
  | .clearBreakCause => .clearBreakCause
  | .readAlarms => .readAlarms
  | .ackAlarm => .ackAlarm
  | .setLines => .setLines
  | .readLines => .readLines
  | .driveOutputs => .driveOutputs

/-- R181: a state in which the reply to a request has just been built: the part's own address, the kind plus 0x80, the tag, and a body of outcome, attention, traverse and break codes, then the record. -/
def replied (kind : Nat) (f : Frame) (code : ReplyCode) (record : List Byte) (s : State) : State :=
  { s with
    slp :=
      { s.slp with
        port := .replying
          (frameBytes (byteOf s.slp.address) (kind + 0x80) f.tag
            (byteOf (replyCode code) :: byteOf (attention s) :: byteOf (traverseCode s.trc.state)
              :: byteOf (breakCode s.bkm.state) :: record))
        transmitting := false
        replyWait := some 0 } }

/-- A list of commands executed one after another, up to the first that does not answer a next state. -/
def runAll : List Instr → State → Completed
  | [], s => .next s
  | c :: rest, s =>
    match exec c s with
    | .next t => runAll rest t
    | .fault r => .fault r
    | .refused r => .refused r

/-! ## Invariants -/

/-- R41, R111, R113: the sample queue holds at most 8 records, the holding record is occupied only while it is full, and the summary queue and the trend ring stay within 4 and 64. -/
abbrev QueuesBounded (s : State) : Prop :=
  s.gtu.queue.length ≤ 8 ∧ (s.gtu.held.isSome → s.gtu.queue.length = 8)
    ∧ s.pfb.summaries.length ≤ 4 ∧ s.pfb.trend.length ≤ 64

/-- The states in which the traverse is at a referenced position (R1). -/
def referenced : TraverseState → Bool
  | .transit _ _ | .parked | .scanning _ _ _ _ | .dwell _ | .point _ _ => true
  | .stopped | .homing _ | .halting | .faulted _ => false

/-- R1, R4, R5, R34: homed is true in TRANSIT, PARKED, SCANNING, DWELL and POINT; the buffer and the duty are zero in the resting states, the duty is zero during an off-time, and both stay in their range; the comparator is idle outside SCANNING. -/
abbrev TraverseSound (s : State) : Prop :=
  (referenced s.trc.state → s.trc.homed)
    ∧ (loopRuns s.trc.state = false → s.trc.buffer = 0 ∧ s.trc.duty = 0)
    ∧ (s.trc.offTime.isSome → s.trc.duty = 0)
    ∧ (-1023 ≤ s.trc.buffer ∧ s.trc.buffer ≤ 1023)
    ∧ (-1023 ≤ s.trc.duty ∧ s.trc.duty ≤ 1023)
    ∧ (isScanning s.trc.state = false → s.gtu.comparator = none)

/-- R134: the shutter is commanded open exactly while the interlock is satisfied and the traverse is SCANNING, POINT or in the AIR phase of DWELL. -/
abbrev ShutterFollows (s : State) : Prop :=
  s.sdu.shutterOpen =
    (s.plx.interlock
      && (isScanning s.trc.state || isPoint s.trc.state || (isDwell s.trc.state && dwellPhaseAir s)))

/-- R159, R160, R161: at most one entry per kind, none of them INACTIVE and acknowledged. -/
abbrev AlarmsSound (s : State) : Prop :=
  (s.plx.alarms.map AlarmEntry.kind).Nodup
    ∧ ∀ e ∈ s.plx.alarms, e.active ∨ e.acknowledged = false

/-- R8, R31, R72, R76, R79, R80, R119, R154, R167, R185: every record and setting in force lies in its range; the eight grade slots, of which the active and the staged one hold records and differ; the interlock held is the one the lines form. -/
abbrev RecordsSound (s : State) : Prop :=
  s.trc.drive.inRange
    ∧ (∀ g, s.gtu.geometry = some g → g.inRange)
    ∧ s.grs.slots.length = 8
    ∧ (∀ r, some r ∈ s.grs.slots → r.inRange)
    ∧ (∀ n, s.grs.active = some n → (gradeIn s n).isSome)
    ∧ (∀ n, s.grs.staged = some n → (gradeIn s n).isSome ∧ s.grs.active ≠ some n)
    ∧ s.sdu.settings.inRange
    ∧ (5 ≤ s.bkm.recoveryDelay ∧ s.bkm.recoveryDelay ≤ 600)
    ∧ s.slp.silenceTimeout ≤ 60
    ∧ s.plx.interlock = interlockFormed s.plx.inputs

/-- R92, R104, R106, R107: while the break state is not CLEAR no NORMAL scan is held; unless a pass is in step D or E, the working set equals the published set. -/
abbrev BreakKeepsProfile (s : State) : Prop :=
  (s.bkm.state ≠ .clear → ∀ c ∈ s.pfb.contexts, c.kind ≠ .normal)
    ∧ ((∀ p, s.pfb.pass = some p → p.step ≠ .filter ∧ p.step ≠ .finish) →
      s.pfb.working = s.pfb.published)

end Sys2Proof.Machine
end

