-- ==== Sys2Proof/Certificates/Slice0/Obligations.lean ====
section
/-! DEFINITION. The statements about the model. Each names the rules it rests on in OBLIGATIONS.json. -/

open Sys2Proof Sys2Proof.Machine

/-- The step takes the command at the front of the queue and executes it on the state with the queue's rest. On an empty queue the timebase runs: while no event of a timer is due, one microsecond passes at every timer; otherwise a due event is put in the queue. That an empty queue is the timebase is the model's choice (log 1), and so is which due event comes first (log 19). -/
def Obligations.StepRunsFrontCommand : Prop :=
  (∀ (c : Instr) (s : State), step { s with pending := c :: s.pending } = exec c s) ∧
  (∀ s : State, s.pending = [] →
      let stood (timer : Option Nat) (us : Nat) : Prop := ∃ n, timer = some n ∧ us ≤ n
      let due (c : Instr) : Prop :=
        match c with
        | .frameSwitchSettled sw => stood (s.trc.switch sw).timer 2000
        | .shutterConfirmSettled => stood s.sdu.confirm.timer 2000
        | .inputDebounceExpiry i =>
          ∃ l, s.plx.inputs[i.val]? = some l ∧ l.high ≠ some l.raw ∧ l.setting.debounceMs * 1000 ≤ l.timer
        | .offTimeEnd => s.trc.offTime = some 0
        | .pwmPeriodStart => 50 ≤ s.trc.pwmPhase
        | .tripWindowEnd => 1000000 ≤ s.trc.windowPhase
        | .homingTimeout => stood s.trc.homingTimer 60000000 ∧ isHoming s.trc.state = true
        | .speedLoopRun => 1000 ≤ s.trc.loopPhase
        | .stallTimeout => 500 ≤ s.trc.stallMs ∧ loopRuns s.trc.state = true
        | .shutterWindowExpiry => s.sdu.supervision = .settling ∧ 500000 ≤ s.sdu.window
        | .pointTimerExpiry =>
          ∃ position period, s.trc.state = .point position period ∧ stood s.gtu.pointTimer (period * 1000)
        | .subGateExpiry => stood s.gtu.subGateTimer 1000000 ∧ s.sdu.dwell.isSome
        | .recoveryDelayExpiry => s.bkm.state = .waiting (.running 0)
        | .silenceTimeout => s.slp.silence = some 0
        | .replyStart =>
          (∃ reply, s.slp.port = .replying reply) ∧ s.slp.transmitting = false
            ∧ stood s.slp.replyWait 5000
        | _ => False
      let up (timer : Option Nat) : Option Nat := timer.map (· + 1)
      let down (timer : Option Nat) : Option Nat := timer.map (· - 1)
      let contact (d : Debounced) : Debounced := { raw := d.raw, level := d.level, timer := up d.timer }
      ((∃ c, due c) → ∃ c, due c ∧ step s = .next { s with pending := [c] })
        ∧ ((∀ c, ¬ due c) →
          step s =
            .next
              { s with
                trc :=
                  { s.trc with
                    windowPhase := s.trc.windowPhase + 1, offTime := down s.trc.offTime
                    homingTimer := up s.trc.homingTimer
                    home := contact s.trc.home, backLimit := contact s.trc.backLimit
                    frontLimit := contact s.trc.frontLimit
                    pwmPhase := s.trc.pwmPhase + 1, loopPhase := s.trc.loopPhase + 1 }
                gtu :=
                  { s.gtu with
                    gateTimer := min 16777215 (s.gtu.gateTimer + 1)
                    pointTimer := up s.gtu.pointTimer, subGateTimer := up s.gtu.subGateTimer }
                sdu :=
                  { s.sdu with
                    window := if s.sdu.supervision = .settling then s.sdu.window + 1 else s.sdu.window
                    confirm := contact s.sdu.confirm }
                bkm :=
                  { s.bkm with
                    state := match s.bkm.state with
                      | .waiting (.running us) => .waiting (.running (us - 1))
                      | other => other }
                plx :=
                  { s.plx with
                    inputs := s.plx.inputs.map fun l =>
                      { l with
                        timer := if l.high = some l.raw then 0 else min 255000 (l.timer + 1) } }
                slp :=
                  { s.slp with
                    silence := down s.slp.silence, replyWait := up s.slp.replyWait } }))

/-- A power-on reset (POWER_ON_RESET) gives every block the values of its chapter's power-on column, whatever the state before. The straps come with the command and the raw input levels are kept: model choices, logs 4 and 6. -/
def Obligations.PowerOnReset : Prop :=
  ∀ (p : Straps) (s : State), ∃ t, exec (.powerOnReset p) s = .next t
    ∧ (t.trc.state = .stopped ∧ t.trc.homed = false ∧ t.trc.position = 0 ∧ t.trc.vMeas = 0
        ∧ t.trc.buffer = 0 ∧ t.trc.duty = 0 ∧ bridgeEnabled t = true
        ∧ t.trc.drive = { kp := 32, stallDuty := 700, offTimeMs := 2, transitSpeed := 3000
                          homingSpeed := 1000 }
        ∧ t.trc.tripCount = 0 ∧ t.trc.stallMs = 0 ∧ t.trc.homingTimer = none
        ∧ t.trc.offTime = none ∧ t.trc.dwellHold = false ∧ t.trc.windowPhase = 0
        ∧ ∀ sw, t.trc.switch sw =
            { raw := (s.trc.switch sw).raw, level := (s.trc.switch sw).raw, timer := some 0 })
    ∧ (t.gtu.geometry = none ∧ t.gtu.comparator = none ∧ t.gtu.gateTimer = 0
        ∧ t.gtu.counters = { bwc := 0, mac := 0, mrc := 0, clc := 0 } ∧ t.gtu.queue = []
        ∧ t.gtu.held = none ∧ t.gtu.pointTimer = none ∧ t.gtu.subGateTimer = none
        ∧ t.gtu.pointSequence = 0)
    ∧ (t.cve.job = none ∧ t.cve.lastServed = .pass)
    ∧ (t.grs.slots = List.replicate 8 none ∧ t.grs.active = none ∧ t.grs.staged = none
        ∧ t.grs.pins = [])
    ∧ (t.pfb.scanNumber = 0 ∧ t.pfb.contexts = [] ∧ t.pfb.pass = none ∧ t.pfb.working = []
        ∧ t.pfb.published = [] ∧ t.pfb.publishedScan = 0 ∧ t.pfb.publishedEdges = none
        ∧ t.pfb.summaries = [] ∧ t.pfb.trend = [] ∧ (t.pfb.reseed.map fun r => (r.mark.scan, r.later)) = some (1, none))
    ∧ (t.sdu.refs = { b := 0, r0 := 0, q0 := 0, f0 := 0 }
        ∧ t.sdu.settings = { interval := 0, phaseLength := 4, bwLimit := 50, moiLimit := 50
                             calLimit := 50 }
        ∧ t.sdu.countdown = none ∧ t.sdu.wanted = false
        ∧ (∀ c ∈ [t.sdu.bw, t.sdu.moi, t.sdu.cal],
            c = { result := .noResult, candidate := none, drift := none, rejects := 0
                  suspect := false })
        ∧ t.sdu.lastScan = 0 ∧ t.sdu.dwell = none ∧ t.sdu.posted = none ∧ t.sdu.stdDone = false
        ∧ t.sdu.shutterOpen = false ∧ t.sdu.supervision = .settling ∧ t.sdu.window = 0
        ∧ t.sdu.confirm =
            { raw := s.sdu.confirm.raw, level := s.sdu.confirm.raw, timer := some 0 })
    ∧ (t.bkm.state = .clear ∧ t.bkm.cause = none ∧ t.bkm.watch = .off ∧ t.bkm.runCount = 0
        ∧ t.bkm.levelCondition = false ∧ t.bkm.recoveryDelay = 30 ∧ t.bkm.lastProbe = none
        ∧ t.bkm.failedProbes = 0)
    ∧ (t.plx.alarms = [] ∧ t.plx.alarmNew = false
        ∧ (∀ l ∈ t.plx.inputs,
            l.setting = { role := .noRole, mode := .level, polarity := .activeHigh, debounceMs := 10 }
              ∧ l.high = none ∧ l.timer = 0 ∧ l.change = false)
        ∧ (t.plx.inputs.map InputLine.raw = s.plx.inputs.map InputLine.raw)
        ∧ t.plx.outputs =
            List.replicate 6 { setting := { source := .manual, polarity := .activeHigh }, manual := false }
        ∧ t.plx.scanToggle = false ∧ t.plx.interlock = true)
    ∧ (t.slp.address = p.address.val ∧ t.slp.baud = p.baud.val ∧ t.slp.receiver = .hunting
        ∧ t.slp.port = .listening ∧ t.slp.silenceTimeout = 0 ∧ t.slp.silence = none
        ∧ t.slp.resetSeen = true ∧ t.slp.resetCause = .powerOn ∧ t.slp.resetPending = false)

/-- REPLY_END while a reply is on the line and a reset is pending: every block takes the values of its chapter's part-reset column. The straps come with the command (log 4) and the raw input levels are kept (log 6). -/
def Obligations.PartReset : Prop :=
  ∀ (p : Straps) (s : State), s.slp.transmitting = true → s.slp.resetPending = true →
    ∃ t, exec (.replyEnd p) s = .next t
    ∧ (t.trc.state = .stopped ∧ t.trc.homed = false ∧ t.trc.position = 0 ∧ t.trc.vMeas = 0
        ∧ t.trc.buffer = 0 ∧ t.trc.duty = 0 ∧ bridgeEnabled t = true ∧ t.trc.drive = s.trc.drive
        ∧ t.trc.tripCount = 0 ∧ t.trc.stallMs = 0 ∧ t.trc.homingTimer = none
        ∧ t.trc.offTime = none ∧ t.trc.dwellHold = false ∧ t.trc.windowPhase = 0
        ∧ ∀ sw, t.trc.switch sw =
            { raw := (s.trc.switch sw).raw, level := (s.trc.switch sw).raw, timer := some 0 })
    ∧ (t.gtu.geometry = s.gtu.geometry ∧ t.gtu.comparator = none ∧ t.gtu.gateTimer = 0
        ∧ t.gtu.counters = { bwc := 0, mac := 0, mrc := 0, clc := 0 } ∧ t.gtu.queue = []
        ∧ t.gtu.held = none ∧ t.gtu.pointTimer = none ∧ t.gtu.subGateTimer = none
        ∧ t.gtu.pointSequence = 0)
    ∧ (t.cve.job = none ∧ t.cve.lastServed = .pass)
    ∧ t.grs = { s.grs with staged := none, pins := [] }
    ∧ (t.pfb.scanNumber = 0 ∧ t.pfb.contexts = [] ∧ t.pfb.pass = none
        ∧ t.pfb.published.length = (s.gtu.geometry.map Geometry.Z).getD 0
        ∧ t.pfb.working = t.pfb.published
        ∧ (∀ z ∈ t.pfb.published, z.onSheet = false
            ∧ ∀ ch, z.cells.get ch = { filtered := none, age := 255, last := .unwritten })
        ∧ t.pfb.publishedScan = 0 ∧ t.pfb.publishedEdges = none ∧ t.pfb.summaries = []
        ∧ t.pfb.trend = [] ∧ (t.pfb.reseed.map fun r => (r.mark.scan, r.later)) = some (1, none))
    ∧ (t.sdu.refs = s.sdu.refs ∧ t.sdu.settings = s.sdu.settings
        ∧ t.sdu.bw = s.sdu.bw ∧ t.sdu.moi = s.sdu.moi ∧ t.sdu.cal = s.sdu.cal
        ∧ t.sdu.wanted = false
        ∧ t.sdu.countdown =
            (if s.sdu.settings.interval = 0 then none else some s.sdu.settings.interval)
        ∧ t.sdu.lastScan = 0 ∧ t.sdu.dwell = none ∧ t.sdu.posted = none ∧ t.sdu.stdDone = false
        ∧ t.sdu.shutterOpen = false ∧ t.sdu.supervision = .settling ∧ t.sdu.window = 0
        ∧ t.sdu.confirm =
            { raw := s.sdu.confirm.raw, level := s.sdu.confirm.raw, timer := some 0 })
    ∧ (t.bkm.state = .clear ∧ t.bkm.cause = s.bkm.cause ∧ t.bkm.watch = .off ∧ t.bkm.runCount = 0
        ∧ t.bkm.levelCondition = false ∧ t.bkm.recoveryDelay = s.bkm.recoveryDelay
        ∧ t.bkm.lastProbe = s.bkm.lastProbe ∧ t.bkm.failedProbes = s.bkm.failedProbes)
    ∧ (t.plx.alarms = [] ∧ t.plx.alarmNew = false
        ∧ t.plx.inputs =
            s.plx.inputs.map (fun l => { l with high := none, timer := 0, change := false })
        ∧ t.plx.outputs = s.plx.outputs ∧ t.plx.scanToggle = false
        ∧ t.plx.interlock = !s.plx.inputs.any (fun l => l.setting.role == .interlock))
    ∧ (t.slp.address = p.address.val ∧ t.slp.baud = p.baud.val ∧ t.slp.receiver = .hunting
        ∧ t.slp.port = .listening ∧ t.slp.silenceTimeout = s.slp.silenceTimeout
        ∧ t.slp.silence =
            (if s.slp.silenceTimeout = 0 then none else some (s.slp.silenceTimeout * 1000000))
        ∧ t.slp.resetSeen = true ∧ t.slp.resetCause = .partReset ∧ t.slp.resetPending = false)

/-- An unknown kind is refused with UNKNOWN_KIND and an unfit body with BAD_LENGTH; a frame that arrives in REPLYING, a reply, or a frame for another address changes nothing; a broadcast of an unknown kind has its frame effects only. Whole frames as commands: log 28. The body lengths each kind accepts. -/
def Obligations.FramesNotActedOn : Prop :=
  ((∀ (kind : Byte) (f : Frame) (s : State), Addressed f s → kind.toNat < 0x80 →
        (∀ k, kindCode k ≠ kind.toNat) →
        exec (.unknownKindRequest kind f) s =
          .next (replied kind.toNat f .unknownKind [] (frameTaken s)))
      ∧ ∀ (k : ReqKind) (f : Frame) (s : State), Addressed f s → bodyFits k f.body = false →
        exec (requestOf k f) s = .next (replied (kindCode k) f .badLength [] (frameTaken s))) ∧
  (∀ (kind : Byte) (f : Frame) (s : State),
      ((∃ reply, s.slp.port = .replying reply) ∨ 0x80 ≤ kind.toNat
          ∨ (f.address.toNat ≠ 15 ∧ f.address.toNat ≠ s.slp.address) →
        exec (.ignoredFrame kind f) s = .next s ∧ exec (.unknownKindRequest kind f) s = .next s
          ∧ ∀ k, kindCode k = kind.toNat → exec (requestOf k f) s = .next s)
      ∧ (Broadcasts f s → kind.toNat < 0x80 → (∀ k, kindCode k ≠ kind.toNat) →
        exec (.ignoredFrame kind f) s = .next (frameTaken s)
          ∧ exec (.unknownKindRequest kind f) s = .next (frameTaken s))) ∧
  (∀ (k : ReqKind) (body : List Byte),
      let length : Nat :=
        match k with
        | .service | .scan | .selectGrade | .readGrade | .readTrend | .ackAlarm => 1
        | .setBreak | .driveOutputs => 2
        | .readProfile => 5
        | .point => 6
        | .setDrive | .setStandardize => 8
        | .setGeometry => 21
        | .setLines => 44
        | .loadGrade =>
          let parts := u8 body 20
          let afterBw := 22 + 4 * u8 body 21
          let afterMoisture :=
            if parts.testBit 0 then afterBw + 7 + 4 * u8 body (afterBw + 6) else afterBw
          if parts.testBit 1 then afterMoisture + 1 + 4 * u8 body afterMoisture else afterMoisture
        | .identify | .status | .resetPart | .home | .park | .stop | .clearFault | .fetchSummary
        | .clearProfiles | .standardize | .readStandardize | .readBreak | .clearBreakCause
        | .readAlarms | .readLines => 0
      bodyFits k body = true ↔ body.length = length)

/-- A good request frame restarts the silence timer and ends LINK_LOST, and does nothing else; REPLY_START asserts the transmitter enable, and REPLY_END with no reset pending makes the port LISTENING. The reply timing is the model's: log 23. -/
def Obligations.FrameEffectsAndReplySpan : Prop :=
  (∀ s : State,
      frameTaken s =
        { s with
          slp :=
            { s.slp with
              silence :=
                if s.slp.silenceTimeout = 0 then none else some (s.slp.silenceTimeout * 1000000) }
          plx := { s.plx with alarms := endIn .linkLost s.plx.alarms } }) ∧
  ((∀ (reply : List Byte) (s : State), s.slp.port = .replying reply → s.slp.transmitting = false →
        exec .replyStart s =
          .next { s with slp := { s.slp with transmitting := true, replyWait := none } })
      ∧ ∀ (p : Straps) (s : State), s.slp.transmitting = true → s.slp.resetPending = false →
        exec (.replyEnd p) s =
          .next
            { s with
              slp := { s.slp with port := .listening, transmitting := false, replyWait := none } })

/-- Every addressed request is answered with the prefix its event leaves behind; a refused one leaves only its frame's effects and sends the prefix alone. The codes of the request kinds, of the outcomes and of the traverse and break states, and the bits of the attention byte. -/
def Obligations.RequestsAnswered : Prop :=
  (∀ (k : ReqKind) (f : Frame) (s : State), Addressed f s →
      ∃ code record u, exec (requestOf k f) s = .next (replied (kindCode k) f code record u)
        ∧ u.slp.port = .listening ∧ u.slp.address = s.slp.address
        ∧ (0x10 ≤ replyCode code → u = frameTaken s ∧ record = [])
        ∧ (record ≠ [] → code = .done)) ∧
  (∀ s : State,
      let bit := (attention s).testBit
      (bit 0 = true ↔ s.pfb.summaries ≠ []) ∧ bit 1 = s.plx.alarmNew ∧ bit 2 = s.sdu.stdDone
        ∧ (bit 3 = true ↔ ∃ kind, s.trc.state = .faulted kind)
        ∧ (bit 4 = true ↔ ∃ l ∈ s.plx.inputs, l.change = true)
        ∧ bit 5 = s.slp.resetSeen ∧ (bit 6 = true ↔ s.bkm.state ≠ .clear)
        ∧ attention s < 128) ∧
  (∀ code : ReplyCode,
      replyCode code =
        (match code with
        | .done => 0x00
        | .accepted => 0x01
        | .empty => 0x02
        | .unknownKind => 0x10
        | .badLength => 0x11
        | .range => 0x12
        | .state => 0x13
        | .busy => 0x14
        | .notReady => 0x15
        | .slotInUse => 0x16
        | .interlock => 0x17
        | .breakActive => 0x18)) ∧
  (∀ state : TraverseState,
      traverseCode state =
        (match state with
        | .stopped => 0
        | .homing _ => 1
        | .transit _ _ => 2
        | .parked => 3
        | .scanning _ _ _ _ => 4
        | .dwell _ => 5
        | .point _ _ => 6
        | .halting => 7
        | .faulted _ => 8)) ∧
  (∀ state : BreakState,
      breakCode state =
        (match state with
        | .clear => 0
        | .broken => 1
        | .waiting _ => 2
        | .probing => 3)) ∧
  ∀ k : ReqKind,
    kindCode k =
      (match k with
      | .identify => 0x01
      | .status => 0x02
      | .service => 0x03
      | .resetPart => 0x04
      | .home => 0x10
      | .scan => 0x11
      | .park => 0x12
      | .stop => 0x13
      | .point => 0x14
      | .clearFault => 0x15
      | .setDrive => 0x16
      | .setGeometry => 0x20
      | .loadGrade => 0x28
      | .selectGrade => 0x29
      | .readGrade => 0x2A
      | .fetchSummary => 0x30
      | .readProfile => 0x31
      | .readTrend => 0x32
      | .clearProfiles => 0x33
      | .setStandardize => 0x38
      | .standardize => 0x39
      | .readStandardize => 0x3A
      | .setBreak => 0x40
      | .readBreak => 0x41
      | .clearBreakCause => 0x42
      | .readAlarms => 0x48
      | .ackAlarm => 0x49
      | .setLines => 0x4A
      | .readLines => 0x4B
      | .driveOutputs => 0x4C)

/-- A broadcast SERVICE, STOP or PARK acts as the addressed request does, without a reply; a broadcast of any other kind or with an unfit body has its frame's effects only. The kinds acted on are SERVICE, STOP and PARK. -/
def Obligations.BroadcastsActInSilence : Prop :=
  (∀ k : ReqKind, actsOnBroadcast k = true ↔ k = .service ∨ k = .stop ∨ k = .park) ∧
  ∀ (k : ReqKind) (f : Frame) (s : State), Broadcasts f s →
    (actsOnBroadcast k = false ∨ bodyFits k f.body = false →
      exec (requestOf k f) s = .next (frameTaken s))
    ∧ (actsOnBroadcast k = true → bodyFits k f.body = true →
      exec (requestOf k f) s = .next (answerTo k f.body (frameTaken s)).state
        ∧ ∀ g : Frame, Addressed g s → g.body = f.body →
          ∃ u, exec (requestOf k g) s = .next u
            ∧ exec (requestOf k f) s =
                .next
                  { u with
                    slp :=
                      { u.slp with
                        port := .listening, transmitting := s.slp.transmitting
                        replyWait := s.slp.replyWait } })

/-- The bytes of a frame: the sync byte, address, kind, tag, the length and the body, then the check value of all but the sync byte, low byte first. The characters of a good frame, with no gap above 1000 µs, do what the command of that frame does. The two ways of sending a frame: log 28. -/
def Obligations.ReceiverTakesGoodFrame : Prop :=
  (∀ (address tag : Byte) (kind : Nat) (body : List Byte),
      let covered : List Byte :=
        [address, BitVec.ofNat 8 kind, tag, BitVec.ofNat 8 body.length
         , BitVec.ofNat 8 (body.length / 256)] ++ body
      let check := (crc16 covered).toNat
      frameBytes address kind tag body =
        [0xC3] ++ covered ++ [BitVec.ofNat 8 check, BitVec.ofNat 8 (check / 256)]) ∧
  ∀ (kind : Byte) (f : Frame) (chars : List (Byte × Nat)) (s : State),
    s.slp.receiver = .hunting → f.body.length ≤ 512 →
    chars.map Prod.fst = frameBytes f.address kind.toNat f.tag f.body →
    (∀ c ∈ chars, c.2 ≤ 1000) →
    runAll (chars.map fun c => .characterReceived c.1 false c.2) s = exec (.ignoredFrame kind f) s
      ∧ ∀ k, kindCode k = kind.toNat →
        runAll (chars.map fun c => .characterReceived c.1 false c.2) s = exec (requestOf k f) s

/-- The check value, bit by bit: from 0xFFFF, each byte most significant bit first, the register shifted left by each bit and combined with 0x1021 where its top bit and the incoming bit differed. What the receiver does with each character and with a line break. A good frame is handed on as the command of its kind: log 28. -/
def Obligations.ReceiverStates : Prop :=
  (crc16 [] = 0xFFFF
      ∧ (∀ (covered : List Byte) (b : Byte),
        let shifted (register : BitVec 16) (incoming : Bool) : BitVec 16 :=
          if register.getLsbD 15 = incoming then register <<< 1 else (register <<< 1) ^^^ 0x1021
        crc16 (covered ++ [b]) =
          ((List.range 8).map fun i => b.getLsbD (7 - i)).foldl shifted (crc16 covered))
      ∧ crc16 [0x31, 0x32, 0x33, 0x34, 0x35, 0x36, 0x37, 0x38, 0x39] = 0x29B1) ∧
  ∀ (b : Byte) (bad : Bool) (gap : Nat) (old : List Byte) (s : State),
    let hunt : State :=
      { s with
        slp := { s.slp with receiver := if bad = false ∧ b = 0xC3 then .inFrame [] else .hunting } }
    let dropped : State := { s with slp := { s.slp with receiver := .hunting } }
    let buffer := old ++ [b]
    let length := (buffer.getD 3 0).toNat + 256 * (buffer.getD 4 0).toNat
    let kept : State := { s with slp := { s.slp with receiver := .inFrame buffer } }
    let sent := (buffer.getD (length + 5) 0).toNat + 256 * (buffer.getD (length + 6) 0).toNat
    exec .lineBreak s = .next dropped
    ∧ (s.slp.receiver = .hunting → exec (.characterReceived b bad gap) s = .next hunt)
    ∧ (s.slp.receiver = .inFrame old → 1000 < gap →
        exec (.characterReceived b bad gap) s = .next hunt)
    ∧ (s.slp.receiver = .inFrame old → gap ≤ 1000 → bad = true →
        exec (.characterReceived b bad gap) s = .next dropped)
    ∧ (s.slp.receiver = .inFrame old → gap ≤ 1000 → bad = false →
        (buffer.length < 5 → exec (.characterReceived b bad gap) s = .next kept)
        ∧ (5 ≤ buffer.length → 512 < length → exec (.characterReceived b bad gap) s = .next dropped)
        ∧ (5 ≤ buffer.length → length ≤ 512 → buffer.length < length + 7 →
            exec (.characterReceived b bad gap) s = .next kept)
        ∧ (buffer.length = length + 7 → length ≤ 512 →
            ((crc16 (buffer.take (length + 5))).toNat ≠ sent →
              exec (.characterReceived b bad gap) s = .next dropped)
            ∧ ((crc16 (buffer.take (length + 5))).toNat = sent →
              exec (.characterReceived b bad gap) s =
                exec
                  (.ignoredFrame (buffer.getD 1 0)
                    { address := buffer.getD 0 0, tag := buffer.getD 2 0
                      body := (buffer.drop 5).take length })
                  dropped)))

/-- IDENTIFY and STATUS answer with their records, STATUS clearing RESET_SEEN; SERVICE loads the silence timeout and the timer; RESET_PART holds a reset pending in STOPPED, PARKED and FAULTED. -/
def Obligations.LinkRequests : Prop :=
  (∀ (f : Frame) (s : State), Addressed f s → f.body = [] →
      let t := frameTaken s
      exec (.identify f) s =
          .next
            (replied 0x01 f .done
              [0x18, 0x04, 0x03, byteOf s.slp.address, byteOf s.slp.baud, 0x58, 0x02, 0x08] t)
        ∧ exec (.status f) s =
          .next (replied 0x02 f .done (statusRecord t) { t with slp := { t.slp with resetSeen := false } })) ∧
  (∀ (f : Frame) (s : State), Addressed f s →
      let t := frameTaken s
      (∀ timeout : Byte, f.body = [timeout] →
        exec (.service f) s =
          .next
            (if 60 < timeout.toNat then replied 0x03 f .range [] t
            else
              replied 0x03 f .done []
                { t with
                  slp :=
                    { t.slp with
                      silenceTimeout := timeout.toNat
                      silence :=
                        if timeout.toNat = 0 then none else some (timeout.toNat * 1000000) } }))
      ∧ (f.body = [] →
        exec (.resetPart f) s =
          .next
            (match s.trc.state with
            | .stopped | .parked | .faulted _ =>
              replied 0x04 f .done [] { t with slp := { t.slp with resetPending := true } }
            | _ => replied 0x04 f .state [] t)))

/-- The reply records of R192 and R193, field by field at the offsets of their layouts, and their lengths. A number is sent modulo 256, 65536 or 2^32, a signed one in two's complement. What absent fields hold where the layouts leave it open is the model's (log 26), and so is the rounding up of a RUNNING delay to whole milliseconds (log 18). -/
def Obligations.RecordLengths : Prop :=
  let byte (r : List Byte) (i n : Nat) : Prop := u8 r i = n % 256
  let half (r : List Byte) (i n : Nat) : Prop := u16 r i = n % 65536
  let word (r : List Byte) (i n : Nat) : Prop := u32 r i = n % 4294967296
  let signed (r : List Byte) (i : Nat) (n : Int) : Prop := (u32 r i : Int) = n % 4294967296
  let bits (r : List Byte) (i : Nat) (l : List Bool) : Prop :=
    ∀ j, (u8 r i).testBit j = l.getD j false
  let zone (r : List Byte) (i : Nat) (z : Option Nat) : Prop := half r i (z.getD 0xFFFF)
  let kinds : List AlarmKind :=
    [.sheetBreak, .edgeHole, .bwDeviation, .moiDeviation, .bwSpread, .stdRejected, .stdPersistent
     , .shutter, .driveCurrent, .driveStall, .overtravel, .homingFailed, .interlock, .sampleOverrun
     , .linkLost, .scanSkipped]
  let broken (b : BreakState) : Nat :=
    match b with
    | .clear => 0
    | .broken => 1
    | .waiting _ => 2
    | .probing => 3
  let machine (s : State) : Nat :=
    if s.plx.inputs.any fun l => l.setting.role == .machineRun then
      if s.plx.inputs.any fun l => l.setting.role == .machineRun && lineState l == some true then 2 else 1
    else 0
  (∀ s : State, (identifyRecord s).length = 8) ∧
  (∀ s : State,
      let r := statusRecord s
      r.length = 41
        ∧ u8 r 0 =
            (match s.trc.state with
            | .stopped => 0
            | .homing _ => 1
            | .transit _ _ => 2
            | .parked => 3
            | .scanning _ _ _ _ => 4
            | .dwell _ => 5
            | .point _ _ => 6
            | .halting => 7
            | .faulted _ => 8)
        ∧ bits r 1
            ([s.trc.homed]
              ++ (match s.trc.state with
                | .scanning d phase approach park => [d == .rev, phase == .turn, approach, park, false, false]
                | .dwell resume =>
                  [false, false, false, false, resume
                   , match s.sdu.dwell with
                     | some d => d.step != .dark
                     | none => false]
                | _ => List.replicate 6 false)
              ++ [s.trc.dwellHold])
        ∧ u8 r 2 =
            (match s.trc.state with
            | .transit _ .scan => 1
            | .transit _ .point => 2
            | _ => 0)
        ∧ u8 r 3 =
            (match s.trc.state with
            | .homing .seekClear => 0
            | .homing .seekHome => 1
            | .homing (.toPark _) => 2
            | _ => 0xFF)
        ∧ u8 r 4 =
            (match s.trc.state with
            | .faulted .driveCurrent => 1
            | .faulted .driveStall => 2
            | .faulted .overtravel => 3
            | .faulted .homingFailed => 4
            | _ => 0)
        ∧ signed r 5 s.trc.position
        ∧ word r 9
            (match s.trc.state with
            | .transit .park _ => (s.gtu.geometry.map Geometry.P).getD 0
            | .transit (.point position _) _ => position
            | .point position _ => position
            | _ => 0)
        ∧ half r 13
            (match s.trc.state with
            | .transit (.point _ ms) _ => ms
            | .point _ ms => ms
            | _ => 0)
        ∧ signed r 15 s.trc.vMeas ∧ (u16 r 19 : Int) = s.trc.buffer % 65536
        ∧ byte r 21 s.trc.tripCount ∧ byte r 22 (s.grs.active.getD 0xFF)
        ∧ byte r 23 (s.grs.staged.getD 0xFF) ∧ word r 24 s.pfb.scanNumber
        ∧ word r 28 ((s.pfb.pass.map PassRecord.scan).getD 0)
        ∧ u8 r 32 =
            ([AccId.acc0, AccId.acc1].countP fun a => s.pfb.contexts.any fun c => c.accumulator == some a)
        ∧ bits r 33
            [s.pfb.pass.isSome, s.gtu.held.isSome, s.sdu.shutterOpen, s.sdu.confirm.level, s.plx.interlock
             , s.sdu.wanted, s.slp.silence.isSome]
        ∧ byte r 34 s.gtu.queue.length ∧ u8 r 35 = machine s
        ∧ half r 36 (s.sdu.countdown.getD 0xFFFF) ∧ u8 r 38 = broken s.bkm.state
        ∧ byte r 39 s.slp.silenceTimeout
        ∧ u8 r 40 =
            (match s.slp.resetCause with
            | .powerOn => 0
            | .partReset => 1)) ∧
  (∀ x : Summary,
      let r := summaryRecord x
      let block (o : Nat) (c : ChannelSummary) : Prop :=
        half r (o + 1) c.n ∧ half r (o + 15) c.clampedSlots
          ∧ match c.status with
            | .ok f =>
              u8 r o = 0 ∧ half r (o + 3) f.mean ∧ half r (o + 5) f.twoSigma ∧ half r (o + 7) f.least
                ∧ half r (o + 9) f.leastZone ∧ half r (o + 11) f.greatest ∧ half r (o + 13) f.greatestZone
            | other =>
              u8 r o = (if other = .noData then 1 else 2) ∧ u16 r (o + 3) = 0 ∧ u16 r (o + 5) = 0
                ∧ u16 r (o + 7) = 0 ∧ u16 r (o + 9) = 0xFFFF ∧ u16 r (o + 11) = 0 ∧ u16 r (o + 13) = 0xFFFF
      r.length = 87 ∧ word r 0 x.number
        ∧ u8 r 4 =
            (match x.direction with
            | .fwd => 0
            | .rev => 1)
        ∧ byte r 5 (x.slot.getD 0xFF) ∧ half r 6 x.gradeCode
        ∧ bits r 8 [x.reseeded, x.suspectBw, x.suspectMoi, x.suspectCal]
        ∧ zone r 9 (x.edges.span.map Prod.fst) ∧ zone r 11 (x.edges.span.map Prod.snd)
        ∧ half r 13 x.edges.width ∧ half r 15 x.edges.holes
        ∧ (∀ (j : Nat) (k : AlarmKind), kinds[j]? = some k → (u16 r 17).testBit j = x.kinds.contains k)
        ∧ block 19 x.channels.bw ∧ block 36 x.channels.moi ∧ block 53 x.channels.cal
        ∧ block 70 x.channels.dry) ∧
  (∀ u : Standardize,
      let r := standardizeRecord u
      let block (o : Nat) (c : StdChannel) : Prop :=
        u8 r o =
            (match c.result with
            | .noResult => 0
            | .adopted => 1
            | .first => 2
            | .rejected _ => 3)
          ∧ u8 r (o + 1) =
              (match c.result with
              | .rejected .darkShutter => 1
              | .rejected .saturated => 2
              | .rejected .noReferenceBand => 3
              | .rejected .zero => 4
              | .rejected .drift => 5
              | _ => 0)
          ∧ bits r (o + 2) [c.candidate.isSome, c.drift.isSome, c.suspect]
          ∧ word r (o + 3) (c.candidate.getD 0) ∧ half r (o + 7) (c.drift.getD 0) ∧ byte r (o + 9) c.rejects
      r.length = 60 ∧ word r 0 u.refs.b ∧ word r 4 u.refs.r0 ∧ half r 8 u.refs.q0 ∧ word r 10 u.refs.f0
        ∧ byte r 14 u.settings.interval ∧ byte r 15 u.settings.phaseLength ∧ half r 16 u.settings.bwLimit
        ∧ half r 18 u.settings.moiLimit ∧ half r 20 u.settings.calLimit
        ∧ block 22 u.bw ∧ block 32 u.moi ∧ block 42 u.cal
        ∧ u8 r 52 = (if u.wanted then 1 else 0) ∧ half r 53 (u.countdown.getD 0xFFFF)
        ∧ word r 55 u.lastScan
        ∧ u8 r 59 =
            (match u.dwell.map DwellRecord.step with
            | some .dark => 0
            | some .opening => 1
            | some .air => 2
            | some .evaluating => 3
            | none => 0xFF)) ∧
  (∀ b : BreakMonitor,
      let r := breakRecord b
      r.length = 47 ∧ u8 r 0 = broken b.state
        ∧ (match b.cause with
          | some c =>
            bits r 1 [true, c.zone.isSome, c.gradeCode.isSome]
              ∧ u8 r 2 =
                  (match c.kind with
                  | .gaugeLoss => 1
                  | .edgeCollapse => 2
                  | .input => 3)
              ∧ u8 r 3 =
                  (match c.origin with
                  | .noOrigin => 0
                  | .scan => 1
                  | .point => 2)
              ∧ word r 4 c.scan ∧ signed r 8 c.position ∧ zone r 12 c.zone ∧ half r 14 c.detail
              ∧ half r 16 (c.gradeCode.getD 0)
          | none => (∀ i, 1 ≤ i → i < 18 → i ≠ 12 → i ≠ 13 → u8 r i = 0) ∧ zone r 12 none)
        ∧ (match b.lastProbe with
          | some p =>
            u8 r 18 = 1 ∧ word r 19 p.scan ∧ half r 23 p.width ∧ half r 25 p.minimum
              ∧ u8 r 27 = (if p.sheetFound then 1 else 0)
          | none => ∀ i, 18 ≤ i → i < 28 → u8 r i = 0)
        ∧ byte r 28 b.failedProbes ∧ half r 29 b.recoveryDelay
        ∧ u8 r 31 =
            (match b.state with
            | .waiting .notStarted => 0
            | .waiting (.running _) => 1
            | .waiting .expired => 2
            | _ => 0xFF)
        ∧ word r 32
            (match b.state with
            | .waiting .notStarted => 1000 * b.recoveryDelay
            | .waiting (.running us) => (us + 999) / 1000
            | _ => 0)
        ∧ (match b.watch with
          | .off => u8 r 36 = 0 ∧ word r 37 0 ∧ zone r 41 none ∧ zone r 43 none
          | .point => u8 r 36 = 1 ∧ word r 37 0 ∧ zone r 41 none ∧ zone r 43 none
          | .scan n region =>
            u8 r 36 = 2 ∧ word r 37 n ∧ zone r 41 (region.map Prod.fst) ∧ zone r 43 (region.map Prod.snd))
        ∧ byte r 45 b.runCount ∧ u8 r 46 = (if b.levelCondition then 1 else 0)) ∧
  (∀ s : State, s.plx.inputs.length = 8 → s.plx.outputs.length = 6 →
      let r := linesRecord s
      r.length = 17
        ∧ (∀ (i : Nat) (l : InputLine), s.plx.inputs[i]? = some l →
          u8 r i =
            (match lineState l with
            | some false => 0
            | some true => 1
            | none => 2) + if l.change then 128 else 0)
        ∧ (∀ (i : Nat) (o : OutputLine), s.plx.outputs[i]? = some o →
          bits r (8 + i) [outputLogical s o, o.manual])
        ∧ u8 r 14 = (if s.plx.interlock then 1 else 0) ∧ u8 r 15 = machine s
        ∧ u8 r 16 = (if s.bkm.levelCondition then 1 else 0)) ∧
  (∀ l : List AlarmEntry,
      let r := alarmsRecord l
      r.length = 1 + 11 * l.length ∧ byte r 0 l.length
        ∧ ∀ (i : Nat) (e : AlarmEntry), l[i]? = some e →
          let o := 1 + 11 * i
          1 ≤ u8 r o ∧ kinds[u8 r o - 1]? = some e.kind ∧ bits r (o + 1) [e.active, e.acknowledged]
            ∧ word r (o + 2) e.firstScan ∧ byte r (o + 6) e.count ∧ signed r (o + 7) e.detail) ∧
  (∀ (s : State) (slot : Nat) (g : GradeRecord),
      let r := gradeRecordBytes s slot g
      let pins := s.grs.pins.filter fun p => p.slot == some slot
      r.length = 2 + 4 * pins.length + (gradeBytes slot g).length
        ∧ bits r 0 [s.grs.active == some slot, s.grs.staged == some slot] ∧ byte r 1 pins.length
        ∧ (∀ (i : Nat) (p : Pin), pins[i]? = some p → word r (2 + 4 * i) p.scan)
        ∧ r.drop (2 + 4 * pins.length) = gradeBytes slot g) ∧
  (∀ (count : Nat) (l : List TrendEntry),
      let r := trendRecord count l
      let k := min (min count 32) l.length
      r.length = 1 + 15 * k ∧ u8 r 0 = k
        ∧ ∀ (i : Nat) (e : TrendEntry), i < k → l[l.length - 1 - i]? = some e →
          let o := 1 + 15 * i
          let value (x : Reading) : Nat :=
            match x with
            | .valid v _ => v
            | _ => 0
          let status (x : Reading) : Nat :=
            match x with
            | .valid _ _ => 0
            | .absent => 2
            | _ => 1
          let clamped (x : Reading) : Bool :=
            match x with
            | .valid _ c => c
            | _ => false
          let x := e.readings
          let f := e.flags.gate
          word r o e.sequence ∧ half r (o + 4) (value x.bw) ∧ half r (o + 6) (value x.moi)
            ∧ half r (o + 8) (value x.cal) ∧ half r (o + 10) (value x.dry)
            ∧ u8 r (o + 12) = status x.bw + 4 * status x.moi + 16 * status x.cal + 64 * status x.dry
            ∧ bits r (o + 13)
                [f.shortGate, f.longGate, f.shutterUnconfirmed, f.satBw, f.satMa, f.satMr, f.satCl
                 , e.flags.notStd]
            ∧ bits r (o + 14) [clamped x.bw, clamped x.moi, clamped x.cal, clamped x.dry]) ∧
  (∀ (s : State) (ch : Channel) (c : Nat) (set : ProfileSet) (d first count : Nat),
      let r := profileRecord s ch c set d first count
      let m := min count (s.pfb.published.length - first)
      r.length = 9 + 4 * m ∧ word r 0 s.pfb.publishedScan ∧ byte r 4 c ∧ byte r 5 d ∧ half r 6 first
        ∧ byte r 8 m
        ∧ ∀ (i : Nat) (z : ProfileZone), i < m → s.pfb.published[first + i]? = some z →
          let o := 9 + 4 * i
          let cell := z.cells.get ch
          let shown (v code age : Nat) : Prop :=
            half r o v ∧ u8 r (o + 2) = (code + if z.onSheet then 128 else 0) ∧ byte r (o + 3) age
          match set, cell.filtered, cell.last with
          | .filtered, some v, _ => shown v 0 cell.age
          | .filtered, none, _ => shown 0 3 cell.age
          | .last, _, .valid v => shown v 0 0
          | .last, _, .invalid => shown 0 1 0
          | .last, _, .absent => shown 0 2 0
          | .last, _, .unwritten => shown 0 3 0)

/-- HOME: its checks in order, and the entry into HOMING. -/
def Obligations.HomeRequest : Prop :=
  ∀ (f : Frame) (s : State), Addressed f s → f.body = [] →
    let t := frameTaken s
    exec (.home f) s =
      .next
        (if (s.trc.state ≠ .stopped ∧ s.trc.state ≠ .parked) ∨ s.trc.backLimit.level = true then
          replied 0x10 f .state [] t
        else if s.gtu.geometry.isNone then replied 0x10 f .notReady [] t
        else if s.plx.interlock = false then replied 0x10 f .interlock [] t
        else
          replied 0x10 f .accepted []
            { t with
              trc :=
                { s.trc with
                  state := .homing (if s.trc.home.level then .seekClear else .seekHome)
                  homed := false, homingTimer := some 0, dwellHold := false, stallMs := 0 } })

/-- SCAN: its checks in order, and its effect and outcome in each traverse state. PROBE_NOW in WAITING is accepted in every traverse state after the first checks: the model's reading, log 13. -/
def Obligations.ScanRequest : Prop :=
  ∀ (f : Frame) (flags : Byte) (s : State), Addressed f s → f.body = [flags] →
    let t := frameTaken s
    let h : State :=
      { t with
        trc := { t.trc with dwellHold := false }
        sdu := { t.sdu with wanted := t.sdu.wanted || t.sdu.refs.r0 == 0 } }
    exec (.scan f) s =
      .next
        (if 1 < flags.toNat then replied 0x11 f .range [] t
        else if isFaulted s.trc.state then replied 0x11 f .state [] t
        else if s.trc.homed = false ∨ s.gtu.geometry = none ∨ (s.grs.active = none ∧ s.grs.staged = none) then
          replied 0x11 f .notReady [] t
        else if s.plx.interlock = false then replied 0x11 f .interlock [] t
        else
          match s.bkm.state with
          | .waiting _ =>
            if flags.toNat = 1 then
              replied 0x11 f .accepted []
                (motionTests
                  { t with
                    trc := { t.trc with dwellHold := false }
                    bkm := { t.bkm with state := .waiting .expired } })
            else replied 0x11 f .breakActive [] t
          | .broken | .probing => replied 0x11 f .breakActive [] t
          | .clear =>
            match s.trc.state with
            | .parked =>
              replied 0x11 f .accepted []
                (motionTests
                  (if h.sdu.wanted ∧ s.slp.resetPending = false then enterDwell true h
                  else enterScanning h))
            | .stopped | .point _ _ =>
              replied 0x11 f .accepted [] (motionTests (moveTo (.transit .park .scan) h))
            | .transit .park _ => replied 0x11 f .done [] (moveTo (.transit .park .scan) h)
            | .scanning d phase approach _ =>
              replied 0x11 f .done [] (moveTo (.scanning d phase approach false) h)
            | .dwell _ => replied 0x11 f .done [] (moveTo (.dwell true) h)
            | .transit (.point _ _) _ | .homing _ | .halting => replied 0x11 f .busy [] t
            | .faulted _ => replied 0x11 f .state [] t)

/-- PARK: its checks in order, and its effect and outcome in each traverse state. -/
def Obligations.ParkRequest : Prop :=
  ∀ (f : Frame) (s : State), Addressed f s → f.body = [] →
    let t := frameTaken s
    let h : State := { t with trc := { t.trc with dwellHold := false } }
    exec (.park f) s =
      .next
        (if isFaulted s.trc.state then replied 0x12 f .state [] t
        else if s.trc.homed = false then replied 0x12 f .notReady [] t
        else if s.trc.state = .stopped ∧ s.plx.interlock = false then replied 0x12 f .interlock [] t
        else
          match s.trc.state with
          | .scanning d .inWindow approach _ =>
            replied 0x12 f .done [] (moveTo (.scanning d .inWindow approach true) h)
          | .scanning _ .turn _ _ | .stopped | .point _ _ =>
            replied 0x12 f .accepted [] (motionTests (moveTo (.transit .park .noAction) h))
          | .transit (.point _ _) _ =>
            replied 0x12 f .accepted [] (moveTo (.transit .park .noAction) h)
          | .transit .park _ => replied 0x12 f .done [] (moveTo (.transit .park .noAction) h)
          | .parked => replied 0x12 f .done [] (motionTests h)
          | .dwell _ => replied 0x12 f .done [] (moveTo (.dwell false) h)
          | .homing _ | .halting => replied 0x12 f .busy [] t
          | .faulted _ => replied 0x12 f .state [] t)

/-- STOP: its effect and outcome in each traverse state; it makes no checks. The abort of a dwell stops the sub-gate timer, drops the dwell record and the posted evaluation, makes one in the engine stale, and leaves the pending flag. -/
def Obligations.StopRequest : Prop :=
  ∀ (f : Frame) (s : State), Addressed f s → f.body = [] →
    let t := frameTaken s
    exec (.stop f) s =
      .next
        (match s.trc.state with
        | .homing _ | .transit _ _ | .scanning _ _ _ _ | .point _ _ =>
          replied 0x13 f .accepted [] (motionTests (moveTo .halting (abortOpenScan t)))
        | .dwell _ => replied 0x13 f .done [] (motionTests (moveTo .stopped (abortDwell t)))
        | .parked => replied 0x13 f .done [] (motionTests (moveTo .stopped t))
        | .stopped | .halting | .faulted _ => replied 0x13 f .done [] t)
    ∧ (t.sdu.dwell = none → abortDwell t = t)
    ∧ (∀ d, t.sdu.dwell = some d →
      abortDwell t =
        { t with
          gtu := { t.gtu with subGateTimer := none }
          cve :=
            match t.cve.job with
            | some (.evaluation e) => { t.cve with job := some (.evaluation { e with stale := true }) }
            | _ => t.cve
          sdu := { t.sdu with dwell := none, posted := none } })

/-- POINT: its checks in order, and its effect and outcome in each traverse state. -/
def Obligations.PointRequest : Prop :=
  ∀ (f : Frame) (s : State), Addressed f s → f.body.length = 6 →
    let t := frameTaken s
    let position := u32 f.body 0
    let period := u16 f.body 4
    exec (.point f) s =
      .next
        (if (∀ g, s.gtu.geometry = some g → position < g.W0 ∨ g.W1 < position)
            ∨ period < 10 ∨ 1000 < period then replied 0x14 f .range [] t
        else if isFaulted s.trc.state ∨ isScanning s.trc.state then replied 0x14 f .state [] t
        else if s.trc.homed = false ∨ s.grs.active = none then replied 0x14 f .notReady [] t
        else if s.plx.interlock = false then replied 0x14 f .interlock [] t
        else if s.bkm.state ≠ .clear then replied 0x14 f .breakActive [] t
        else
          match s.trc.state with
          | .parked | .stopped | .point _ _ =>
            replied 0x14 f .accepted []
              (motionTests (moveTo (.transit (.point position period) .point) t))
          | _ => replied 0x14 f .busy [] t)

/-- CLEAR_FAULT ends a fault and its four alarm conditions and leaves the bridge enabled; SET_DRIVE replaces the drive record in STOPPED. -/
def Obligations.ClearFaultAndSetDrive : Prop :=
  ∀ (f : Frame) (s : State), Addressed f s →
    let t := frameTaken s
    (f.body = [] →
      exec (.clearFault f) s =
        .next
          (replied 0x15 f .done []
            (if isFaulted s.trc.state then
              { t with
                trc := { s.trc with state := .stopped, buffer := 0, duty := 0, homingTimer := none }
                plx :=
                  { t.plx with
                    alarms :=
                      endIn .homingFailed
                        (endIn .overtravel (endIn .driveStall (endIn .driveCurrent t.plx.alarms))) } }
            else t))
        ∧ ∀ u, exec (.clearFault f) s = .next u → bridgeEnabled u = true)
    ∧ (f.body.length = 8 →
      let record : DriveRecord :=
        { kp := u8 f.body 0, stallDuty := u16 f.body 1, offTimeMs := u8 f.body 3
          transitSpeed := u16 f.body 4, homingSpeed := u16 f.body 6 }
      exec (.setDrive f) s =
        .next
          (if ¬ ((1 ≤ record.kp ∧ record.kp ≤ 255) ∧ (256 ≤ record.stallDuty ∧ record.stallDuty ≤ 1023)
                ∧ record.offTimeMs ∈ [1, 2, 4, 8]
                ∧ (500 ≤ record.transitSpeed ∧ record.transitSpeed ≤ 10000)
                ∧ (200 ≤ record.homingSpeed ∧ record.homingSpeed ≤ 3000)) then
            replied 0x16 f .range [] t
          else if s.trc.state ≠ .stopped then replied 0x16 f .state [] t
          else replied 0x16 f .done [] { t with trc := { t.trc with drive := record } }))

/-- SET_GEOMETRY: its checks in order, and everything it discards, a new P in PARKED leaving the traverse STOPPED. CLEAR_PROFILES abandons the passes, empties both profile sets and sets re-seed. A POINT job already in the engine at SET_GEOMETRY is stale: log 17. What a re-seed event does to the flag, its mark A and its later mark. -/
def Obligations.GeometryAndProfiles : Prop :=
  (∀ (f : Frame) (s : State), Addressed f s → f.body.length = 21 →
      let t := frameTaken s
      let g : Geometry :=
        { L := u32 f.body 0, P := u32 f.body 4, W0 := u32 f.body 8, W1 := u32 f.body 12
          U := u16 f.body 16, Z := u16 f.body 18, S := u8 f.body 20 }
      let v :=
        if s.trc.state = .parked ∧ s.gtu.geometry.map Geometry.P ≠ some g.P then moveTo .stopped t else t
      exec (.setGeometry f) s =
        .next
          (if ¬ ((20000 ≤ g.L ∧ g.L ≤ 130000) ∧ (300 ≤ g.P ∧ g.P ≤ g.L) ∧ (g.W0 < g.W1 ∧ g.W1 ≤ g.L)
                ∧ (400 ≤ g.U ∧ g.U ≤ 10000) ∧ (8 ≤ g.Z ∧ g.Z ≤ 600) ∧ (1 ≤ g.S ∧ g.S ≤ 8)
                ∧ g.P + 200 + g.U / 2 ≤ g.W0 ∧ g.W1 + g.U / 2 + 300 ≤ g.L
                ∧ g.Z * g.S ≤ 2400 ∧ 20 * (g.Z * g.S) ≤ g.W1 - g.W0) then replied 0x20 f .range [] t
          else if s.trc.state ≠ .stopped ∧ s.trc.state ≠ .parked then replied 0x20 f .state [] t
          else
            replied 0x20 f .done []
              (motionTests
                { v with
                  gtu := { v.gtu with geometry := some g, queue := [], held := none }
                  cve := (stalePointJob t).cve
                  grs :=
                    { v.grs with
                      pins := v.grs.pins.filter fun p =>
                        !(v.pfb.contexts.map ScanContext.number).contains p.scan }
                  pfb :=
                    { v.pfb with
                      contexts := [], pass := none
                      acc0 := List.replicate (g.Z * g.S) .cleared
                      acc1 := List.replicate (g.Z * g.S) .cleared
                      working := List.replicate g.Z .emptied, published := List.replicate g.Z .emptied
                      publishedScan := 0, publishedEdges := none, summaries := [], trend := []
                      reseed := (setReseed (nextMark v) v).pfb.reseed }
                  bkm := { v.bkm with watch := .off, runCount := 0 } }))) ∧
  (∀ (f : Frame) (s : State), Addressed f s → f.body = [] →
      let t := frameTaken s
      let gone := (s.pfb.contexts.filter fun c => c.stage == .inPass || c.stage == .complete).map
        ScanContext.number
      let left := s.pfb.contexts.filter fun c => !gone.contains c.number
      let Z := (s.gtu.geometry.map Geometry.Z).getD 0
      let mark : Mark :=
        match left with
        | c :: _ => { scan := c.number, order := c.order }
        | [] => nextMark s
      exec (.clearProfiles f) s =
        .next
          (replied 0x33 f .done []
            (motionTests
              { t with
                grs := { t.grs with pins := t.grs.pins.filter fun p => !gone.contains p.scan }
                pfb :=
                  { t.pfb with
                    contexts := left, pass := none
                    working := List.replicate Z .emptied, published := List.replicate Z .emptied
                    publishedScan := 0, publishedEdges := none
                    reseed := (setReseed mark t).pfb.reseed }
                bkm := { t.bkm with watch := .off, runCount := 0 } }))) ∧
  (∀ (m : Mark) (s : State),
      nextMark s =
          { scan := if s.pfb.scanNumber = 4294967295 then 1 else s.pfb.scanNumber + 1
            order := s.pfb.starts + 1 }
        ∧ (s.pfb.reseed = none →
          setReseed m s = { s with pfb := { s.pfb with reseed := some { mark := m, later := none } } })
        ∧ ∀ r, s.pfb.reseed = some r →
          setReseed m s =
            { s with
              pfb :=
                { s.pfb with
                  reseed :=
                    some
                      { mark := r.mark
                        later := if r.mark.order < m.order then some m else r.later } } })

/-- LOAD_GRADE: its checks in order, and the slot it replaces whole. SELECT_GRADE: its check; the staged slot while SCANNING, the active slot and re-seed otherwise. The ranges of a record's fields. -/
def Obligations.GradeRequests : Prop :=
  (∀ (f : Frame) (b : GradeBody) (s : State), Addressed f s → walkGrade f.body = some b →
      let t := frameTaken s
      let inUse : Prop := s.grs.active = some b.slot ∨ s.grs.staged = some b.slot
        ∨ ∃ p ∈ s.grs.pins, p.slot = some b.slot
      (7 < b.slot ∨ 3 < b.parts ∨ b.record.inRange = false →
        exec (.loadGrade f) s = .next (replied 0x28 f .range [] t))
      ∧ (b.slot ≤ 7 → b.parts ≤ 3 → b.record.inRange = true → inUse →
        exec (.loadGrade f) s = .next (replied 0x28 f .slotInUse [] t))
      ∧ (b.slot ≤ 7 → b.parts ≤ 3 → b.record.inRange = true → ¬ inUse →
        exec (.loadGrade f) s =
          .next
            (replied 0x28 f .done []
              { t with grs := { t.grs with slots := t.grs.slots.set b.slot (some b.record) } }))) ∧
  (∀ (f : Frame) (slot : Byte) (s : State), Addressed f s → f.body = [slot] →
      let t := frameTaken s
      let n := slot.toNat
      exec (.selectGrade f) s =
        .next
          (if 7 < n ∨ gradeIn s n = none then replied 0x29 f .range [] t
          else if s.grs.active = some n then
            replied 0x29 f .done [] { t with grs := { t.grs with staged := none } }
          else if isScanning s.trc.state then
            replied 0x29 f .accepted [] { t with grs := { t.grs with staged := some n } }
          else
            replied 0x29 f .done []
              (motionTests
                (setReseed (nextMark s) { t with grs := { t.grs with active := some n, staged := none } })))) ∧
  (∀ g : GradeRecord,
      g.inRange = true ↔
        g.code ≤ 65535 ∧ (500 ≤ g.speed ∧ g.speed ≤ 15000) ∧ tableValid g.bwTable = true
          ∧ g.bwTarget ≤ 65535 ∧ g.bwBand ≤ 65535 ∧ g.edgeThreshold ≤ 65535 ∧ g.edgeGuard ≤ 8
          ∧ (1 ≤ g.minSheetZones ∧ g.minSheetZones ≤ 600) ∧ g.breakThreshold ≤ 65535
          ∧ (2 ≤ g.breakRun ∧ g.breakRun ≤ 64) ∧ g.filterShift ≤ 6 ∧ g.spreadLimit ≤ 65535
          ∧ (∀ m, g.moisture = some m →
            tableValid m.table = true ∧ m.floor ≤ 65535 ∧ m.target ≤ 9999 ∧ m.band ≤ 9999)
          ∧ ∀ table, g.caliper = some table → tableValid table = true)

/-- READ_GRADE, READ_PROFILE, READ_TREND and READ_BREAK: their checks and their records; they change nothing. The codes of the channels and of the profile sets, and the grade record a slot number names. What absent fields of the records hold is the model's: log 26. -/
def Obligations.ReadsThatChangeNothing : Prop :=
  ((∀ (n : Nat) (c : Channel),
        channelOf n = some c ↔
          n =
            (match c with
            | .bw => 0
            | .moi => 1
            | .cal => 2
            | .dry => 3))
      ∧ (∀ (n : Nat) (p : ProfileSet),
        profileSetOf n = some p ↔
          n =
            (match p with
            | .filtered => 0
            | .last => 1))
      ∧ ∀ (s : State) (n : Nat) (slot : Option Nat),
        gradeIn s n = (s.grs.slots[n]?).join ∧ gradeAt s slot = slot.bind (gradeIn s)
          ∧ activeGrade s = s.grs.active.bind (gradeIn s)) ∧
  ∀ (f : Frame) (s : State), Addressed f s →
    let t := frameTaken s
    (∀ slot : Byte, f.body = [slot] →
      exec (.readGrade f) s =
        .next
          (if 7 < slot.toNat then replied 0x2A f .range [] t
          else
            match gradeIn s slot.toNat with
            | none => replied 0x2A f .empty [] t
            | some g => replied 0x2A f .done (gradeRecordBytes s slot.toNat g) t))
    ∧ (∀ ch set first0 first1 count : Byte, f.body = [ch, set, first0, first1, count] →
      let first := first0.toNat + 256 * first1.toNat
      exec (.readProfile f) s =
        .next
          (match channelOf ch.toNat, profileSetOf set.toNat, s.gtu.geometry with
          | some c, some p, some g =>
            if count.toNat = 0 ∨ 120 < count.toNat ∨ g.Z ≤ first then replied 0x31 f .range [] t
            else
              replied 0x31 f .done
                (profileRecord s c ch.toNat p set.toNat first (min count.toNat (g.Z - first))) t
          | some _, some _, none =>
            if count.toNat = 0 ∨ 120 < count.toNat then replied 0x31 f .range [] t
            else replied 0x31 f .notReady [] t
          | _, _, _ => replied 0x31 f .range [] t))
    ∧ (∀ count : Byte, f.body = [count] →
      exec (.readTrend f) s =
        .next
          (if count.toNat = 0 ∨ 64 < count.toNat then replied 0x32 f .range [] t
          else if s.pfb.trend = [] then replied 0x32 f .empty [] t
          else replied 0x32 f .done (trendRecord count.toNat s.pfb.trend) t))
    ∧ (f.body = [] → exec (.readBreak f) s = .next (replied 0x41 f .done (breakRecord s.bkm) t))

/-- FETCH_SUMMARY removes the oldest summary, READ_STANDARDIZE clears STD_DONE, READ_ALARMS clears ALARM_NEW and READ_LINES the change latches; nothing else changes. -/
def Obligations.ReadsThatClear : Prop :=
  ∀ (f : Frame) (s : State), Addressed f s → f.body = [] →
    let t := frameTaken s
    exec (.fetchSummary f) s =
        .next
          (match s.pfb.summaries with
          | [] => replied 0x30 f .empty [] t
          | x :: rest =>
            replied 0x30 f .done (summaryRecord x) { t with pfb := { t.pfb with summaries := rest } })
      ∧ exec (.readStandardize f) s =
        .next
          (replied 0x3A f .done (standardizeRecord s.sdu)
            { t with sdu := { t.sdu with stdDone := false } })
      ∧ exec (.readAlarms f) s =
        .next
          (if t.plx.alarms = [] then
            replied 0x48 f .empty [] { t with plx := { t.plx with alarmNew := false } }
          else
            replied 0x48 f .done (alarmsRecord t.plx.alarms)
              { t with plx := { t.plx with alarmNew := false } })
      ∧ exec (.readLines f) s =
        .next
          (replied 0x4B f .done (linesRecord t)
            { t with
              plx :=
                { t.plx with inputs := t.plx.inputs.map fun l => { l with change := false } } })

/-- SET_STANDARDIZE replaces the settings and STANDARDIZE sets the pending flag; SET_BREAK replaces the recovery delay and CLEAR_BREAK_CAUSE empties the cause record in CLEAR only. -/
def Obligations.SettingsRequests : Prop :=
  (∀ (f : Frame) (s : State), Addressed f s →
      let t := frameTaken s
      (f.body.length = 8 →
        let record : StdSettings :=
          { interval := u8 f.body 0, phaseLength := u8 f.body 1, bwLimit := u16 f.body 2
            moiLimit := u16 f.body 4, calLimit := u16 f.body 6 }
        exec (.setStandardize f) s =
          .next
            (if ¬ ((1 ≤ record.phaseLength ∧ record.phaseLength ≤ 15)
                  ∧ (1 ≤ record.bwLimit ∧ record.bwLimit ≤ 500)
                  ∧ (1 ≤ record.moiLimit ∧ record.moiLimit ≤ 500)
                  ∧ (1 ≤ record.calLimit ∧ record.calLimit ≤ 500)) then replied 0x38 f .range [] t
            else if isDwell s.trc.state then replied 0x38 f .busy [] t
            else
              replied 0x38 f .done []
                { t with
                  sdu :=
                    { t.sdu with
                      settings := record
                      countdown :=
                        if t.sdu.countdown.isNone ∧ record.interval ≠ 0 then some record.interval
                        else t.sdu.countdown } }))
      ∧ (f.body = [] →
        exec (.standardize f) s =
          .next
            (match s.trc.state with
            | .point _ _ | .homing _ | .faulted _ => replied 0x39 f .state [] t
            | _ =>
              if s.trc.homed = false then replied 0x39 f .notReady [] t
              else
                replied 0x39 f .accepted []
                  (motionTests
                    { t with
                      trc := { t.trc with dwellHold := false }, sdu := { t.sdu with wanted := true } })))) ∧
  (∀ (f : Frame) (s : State), Addressed f s →
      let t := frameTaken s
      (f.body.length = 2 →
        exec (.setBreak f) s =
          .next
            (if u16 f.body 0 < 5 ∨ 600 < u16 f.body 0 then replied 0x40 f .range [] t
            else
              replied 0x40 f .done [] { t with bkm := { t.bkm with recoveryDelay := u16 f.body 0 } }))
      ∧ (f.body = [] →
        exec (.clearBreakCause f) s =
          .next
            (if s.bkm.state = .clear then
              replied 0x42 f .done [] { t with bkm := { t.bkm with cause := none } }
            else replied 0x42 f .breakActive [] t)))

/-- SET_LINES replaces the settings, then forms the interlock and the level condition, then takes the levels that are due, each as INPUT_DEBOUNCE_EXPIRY of its line takes it; DRIVE_OUTPUTS sets and clears the manual latches, a bit in both masks clearing, and a line of source MANUAL shows its latch. The fields SET_LINES refuses; the sources, logical states and levels of the output lines. The order in which due lines are taken, UNSETTLED ones included, is the model's: log 22. -/
def Obligations.LineRequests : Prop :=
  (∀ (i : Fin 8) (u : State),
      (∀ l, u.plx.inputs[i.val]? = some l → l.high ≠ some l.raw →
        l.setting.debounceMs * 1000 ≤ l.timer →
        exec (.inputDebounceExpiry i) u = .next (takeIfDue u i))
      ∧ ((∀ l, u.plx.inputs[i.val]? = some l →
          l.high = some l.raw ∨ l.timer < l.setting.debounceMs * 1000) → takeIfDue u i = u)) ∧
  ∀ (f : Frame) (s : State), Addressed f s →
    let t := frameTaken s
    (f.body.length = 44 →
      (readLineRecord f.body = none → exec (.setLines f) s = .next (replied 0x4A f .range [] t))
      ∧ ∀ r, readLineRecord f.body = some r →
        exec (.setLines f) s =
          .next
            (replied 0x4A f .done []
              ((List.range 8).foldl takeIfDue
                (formLevelCondition
                  (formInterlock
                    { t with
                      plx :=
                        { t.plx with
                          inputs :=
                            List.zipWith (fun l x => { l with setting := x }) t.plx.inputs r.inputs
                          outputs :=
                            List.zipWith (fun o x => { o with setting := x }) t.plx.outputs
                              r.outputs } })))))
    ∧ (∀ set clear : Byte, f.body = [set, clear] →
      exec (.driveOutputs f) s =
        .next
          (if 63 < set.toNat ∨ 63 < clear.toNat then replied 0x4C f .range [] t
          else
            replied 0x4C f .done []
              { t with
                plx :=
                  { t.plx with
                    outputs :=
                      t.plx.outputs.mapIdx fun i o =>
                        { o with
                          manual :=
                            if clear.toNat.testBit i then false
                            else if set.toNat.testBit i then true else o.manual } } }))
    ∧ (∀ o : OutputLine,
      (outputLogical s o = true ↔
          match o.setting.source with
          | .manual => o.manual = true
          | .break => s.bkm.state ≠ .clear
          | .alarmUnacked => ∃ e ∈ s.plx.alarms, e.acknowledged = false
          | .alarmActive => ∃ e ∈ s.plx.alarms, e.active = true
          | .fault => ∃ kind, s.trc.state = .faulted kind
          | .onSheet =>
            isScanning s.trc.state = true
              ∧ ∃ g, s.gtu.geometry = some g ∧ (g.W0 : Int) ≤ s.trc.position ∧ s.trc.position ≤ g.W1
          | .scanToggle => s.plx.scanToggle = true
          | .standardizing => isDwell s.trc.state = true)
        ∧ outputDriven s o = (outputLogical s o == (o.setting.polarity == .activeHigh)))
    ∧ ∀ body : List Byte,
      let b := u8 body
      (readLineRecord body = none ↔
          (∃ i < 8, 4 < b (4 * i) ∨ 3 < b (4 * i + 1) ∨ 1 < b (4 * i + 2) ∨ b (4 * i + 3) = 0
            ∨ ((b (4 * i) = 2 ∨ b (4 * i) = 4) ∧ b (4 * i + 1) ≠ 0))
          ∨ ∃ i < 6, 7 < b (32 + 2 * i) ∨ 1 < b (33 + 2 * i))
        ∧ ∀ r, readLineRecord body = some r →
          r.inputs.length = 8 ∧ r.outputs.length = 6
            ∧ (∀ (i : Nat) (x : InputSetting), r.inputs[i]? = some x →
              b (4 * i) = (match x.role with
                | .noRole => 0
                | .break => 1
                | .interlock => 2
                | .stdRequest => 3
                | .machineRun => 4)
              ∧ b (4 * i + 1) = (match x.mode with
                | .level => 0
                | .rising => 1
                | .falling => 2
                | .both => 3)
              ∧ b (4 * i + 2) = (match x.polarity with
                | .activeHigh => 0
                | .activeLow => 1)
              ∧ b (4 * i + 3) = x.debounceMs)
            ∧ ∀ (i : Nat) (x : OutputSetting), r.outputs[i]? = some x →
              b (32 + 2 * i) = (match x.source with
                | .manual => 0
                | .break => 1
                | .alarmUnacked => 2
                | .alarmActive => 3
                | .fault => 4
                | .onSheet => 5
                | .scanToggle => 6
                | .standardizing => 7)
              ∧ b (33 + 2 * i) = (match x.polarity with
                | .activeHigh => 0
                | .activeLow => 1)

/-- A raise creates or counts the entry of its kind in its place and latches ALARM_NEW; an ending makes the entry INACTIVE, or removes it when it is acknowledged; ACK_ALARM acknowledges, removing INACTIVE entries. The numbers of the alarm kinds. -/
def Obligations.AlarmList : Prop :=
  (∀ (kind : AlarmKind) (detail : Int) (scan : Nat) (s : State),
      let lasting : Bool := kind ∉ [.stdRejected, .sampleOverrun, .scanSkipped]
      raiseFor kind detail scan s =
          { s with
            plx :=
              { s.plx with
                alarmNew := true
                alarms :=
                  if ∃ e ∈ s.plx.alarms, e.kind = kind then
                    s.plx.alarms.map fun e =>
                      if e.kind ≠ kind then e
                      else
                        { e with
                          active := lasting || e.active
                          acknowledged := e.active && e.acknowledged
                          count := min 255 (e.count + 1), detail := detail }
                  else
                    s.plx.alarms ++
                      [{ kind := kind, active := lasting, acknowledged := false, firstScan := scan
                         count := 1, detail := detail }] } }
        ∧ raiseIn kind detail scan s.plx.alarms = (raiseFor kind detail scan s).plx.alarms
        ∧ ∃ l, endAlarm kind s = { s with plx := { s.plx with alarms := l } }
          ∧ endIn kind s.plx.alarms = l
          ∧ (l.map AlarmEntry.kind).Sublist (s.plx.alarms.map AlarmEntry.kind)
          ∧ (∀ e, e.kind ≠ kind → (e ∈ l ↔ e ∈ s.plx.alarms))
          ∧ (∀ e, e.kind = kind →
              (e ∈ l ↔ e.active = false ∧ (e ∈ s.plx.alarms
                ∨ (e.acknowledged = false ∧ { e with active := true } ∈ s.plx.alarms))))) ∧
  (∀ kind : AlarmKind,
      alarmNumber kind =
        (match kind with
        | .sheetBreak => 1
        | .edgeHole => 2
        | .bwDeviation => 3
        | .moiDeviation => 4
        | .bwSpread => 5
        | .stdRejected => 6
        | .stdPersistent => 7
        | .shutter => 8
        | .driveCurrent => 9
        | .driveStall => 10
        | .overtravel => 11
        | .homingFailed => 12
        | .interlock => 13
        | .sampleOverrun => 14
        | .linkLost => 15
        | .scanSkipped => 16)) ∧
  (∀ (f : Frame) (kind : Byte) (s : State), Addressed f s → f.body = [kind] →
      let t := frameTaken s
      let named : AlarmEntry → Bool := fun e => kind == 0xFF || alarmNumber e.kind == kind.toNat
      exec (.ackAlarm f) s =
        .next
          (if kind ≠ 0xFF ∧ (kind.toNat = 0 ∨ 16 < kind.toNat) then replied 0x49 f .range [] t
          else
            replied 0x49 f .done []
              { t with
                plx :=
                  { t.plx with
                    alarms :=
                      (t.plx.alarms.filter fun e => !named e || e.active).map
                        fun e => if named e then { e with acknowledged := true } else e } }))

/-- What a change of traverse state does to the drive, the timers, the dwell hold, the comparator, the point timer and the watch; the entries into SCANNING from P, DWELL and POINT; an entry into POINT makes a POINT sample job in the engine stale and no other. The dark-shutter mark taken from the confirm at the dwell entry is the model's: log 33. -/
def Obligations.TraverseMoves : Prop :=
  (∀ (new : TraverseState) (s : State),
      moveTo new s =
        { s with
          trc :=
            { s.trc with
              state := new
              buffer := if loopRuns new then s.trc.buffer else 0
              duty := if loopRuns new then s.trc.duty else 0
              stallMs := if loopRuns s.trc.state = loopRuns new then s.trc.stallMs else 0
              homingTimer := if isHoming new then s.trc.homingTimer else none
              dwellHold := s.trc.dwellHold && !(s.trc.state == .parked && new != .parked) }
          gtu :=
            { s.gtu with
              comparator :=
                if isScanning s.trc.state ∧ isScanning new = false then none else s.gtu.comparator
              pointTimer := if isPoint s.trc.state ∧ isPoint new = false then none else s.gtu.pointTimer }
          bkm :=
            { s.bkm with
              watch := if isPoint s.trc.state ∧ isPoint new = false then .off else s.bkm.watch
              runCount := if isPoint s.trc.state ∧ isPoint new = false then 0 else s.bkm.runCount } }) ∧
  (∀ s : State,
      (∀ j, s.cve.job = some (.sample j) → j.record.kind = .point →
        stalePointJob s =
          { s with cve := { s.cve with job := some (.sample { j with stale := true }) } })
        ∧ ((∀ j, s.cve.job = some (.sample j) → j.record.kind ≠ .point) → stalePointJob s = s)) ∧
  (∀ s : State,
      enterScanning s =
          (let m := moveTo (.scanning .fwd .turn true false) s
          { m with gtu := { m.gtu with comparator := some { direction := .fwd, target := 0 } } })
        ∧ (∀ resume, enterDwell resume s =
            (let m := moveTo (.dwell resume) s
            { m with
              gtu :=
                { m.gtu with
                  gateTimer := 0, counters := { bwc := 0, mac := 0, mrc := 0, clc := 0 }
                  unconfirmed := !s.sdu.confirm.level, subGateTimer := some 0 }
              sdu :=
                { m.sdu with
                  dwell :=
                    some
                      { step := .dark, taken := 0
                        dark := { time := 0, bw := 0, ma := 0, mr := 0, cl := 0 }
                        air := { time := 0, bw := 0, ma := 0, mr := 0, cl := 0 }
                        darkShutter := s.sdu.confirm.level
                        satBw := false, satMa := false, satMr := false, satCl := false } } }))
        ∧ ∀ position period,
          let t := enterPoint position period s
          t.trc = (moveTo (.point position period) s).trc
            ∧ t.gtu.pointSequence = 0 ∧ t.gtu.pointTimer = some 0 ∧ t.gtu.gateTimer = 0
            ∧ t.gtu.counters = { bwc := 0, mac := 0, mrc := 0, clc := 0 }
            ∧ t.gtu.queue ++ t.gtu.held.toList =
                (s.gtu.queue ++ s.gtu.held.toList).filter (fun r => r.kind != .point)
            ∧ t.bkm.watch = .point ∧ t.bkm.runCount = 0
            ∧ t.pfb = { s.pfb with trend := [] }
            ∧ t.cve = (stalePointJob s).cve
            ∧ t.grs = s.grs ∧ t.sdu = s.sdu ∧ t.plx = s.plx ∧ t.slp = s.slp)

/-- What the end of the recovery delay (RECOVERY_DELAY_EXPIRY) and a change of the traverse bring in each break state: a pending standardize is taken in PARKED, BROKEN moves to WAITING, the delay runs in PARKED, and an expired delay begins probing. The order of the tests and the start of the delay on the return to WAITING are the model's: logs 15 and 16. When a pending standardize is ready to be taken. While a reset is pending no probe counts as lost, since the scan order may be a deferred one: log 31. -/
def Obligations.ParkedTests : Prop :=
  ∀ s : State,
    (dwellReady s = true ↔
      s.sdu.wanted = true ∧ s.bkm.state ≠ .probing ∧ s.plx.interlock = true ∧ s.trc.dwellHold = false
        ∧ s.slp.resetPending = false)
    ∧ (∀ us, s.bkm.state = .waiting (.running us) →
      exec .recoveryDelayExpiry s =
        .next (motionTests { s with bkm := { s.bkm with state := .waiting .expired } }))
    ∧ (s.bkm.state = .clear →
      motionTests s =
        shutterFollow (if s.trc.state = .parked ∧ dwellReady s then enterDwell false s else s))
    ∧ (s.trc.state ≠ .parked → s.bkm.state ≠ .probing → motionTests s = shutterFollow s)
    ∧ (s.trc.state = .parked → s.bkm.state ≠ .probing → dwellReady s = true →
      motionTests s = shutterFollow (enterDwell false s))
    ∧ (s.trc.state = .parked → dwellReady s = false →
      (s.bkm.state = .broken ∧ s.bkm.levelCondition = false ∨ s.bkm.state = .waiting .notStarted →
        motionTests s =
          shutterFollow
            { s with
              bkm := { s.bkm with state := .waiting (.running (s.bkm.recoveryDelay * 1000000)) } })
      ∧ (s.bkm.state = .broken ∧ s.bkm.levelCondition = true → motionTests s = shutterFollow s)
      ∧ (∀ us, s.bkm.state = .waiting (.running us) → motionTests s = shutterFollow s)
      ∧ (s.bkm.state = .waiting .expired →
        motionTests s =
          shutterFollow
            (if s.plx.interlock ∧ s.grs.active.isSome then
              scanOrder { s with bkm := { s.bkm with state := .probing } }
            else s)))
    ∧ (s.bkm.state = .probing → isScanning s.trc.state = true →
      motionTests s = shutterFollow s)
    ∧ (s.bkm.state = .probing → (∃ c ∈ s.pfb.contexts, c.kind = .probe) →
      motionTests s = shutterFollow s)
    ∧ (s.bkm.state = .probing → s.slp.resetPending = true → motionTests s = shutterFollow s)
    ∧ (s.bkm.state = .probing → isScanning s.trc.state = false → s.slp.resetPending = false →
      (∀ c ∈ s.pfb.contexts, c.kind ≠ .probe) →
      motionTests s =
        motionTests
          { s with
            bkm :=
              { s.bkm with
                state :=
                  .waiting
                    (if s.trc.state = .parked then .running (s.bkm.recoveryDelay * 1000000)
                    else .notStarted) } })

/-- The expiry of the silence timer raises LINK_LOST and gives a park order; park, halt and scan orders act by traverse state, and an aborted scan leaves nothing behind: its gate, records, context, pin and watch go, all else stays. While a reset is pending a scan order is deferred: log 31. -/
def Obligations.OrdersAndAborts : Prop :=
  ∀ s : State,
    (∀ us, s.slp.silence = some us →
      exec .silenceTimeout s =
        .next
          (motionTests
            (parkOrder
              (raiseFor .linkLost s.slp.silenceTimeout s.pfb.scanNumber
                { s with slp := { s.slp with silence := none } }))))
    ∧ parkOrder s =
      (match s.trc.state with
      | .scanning _ _ _ _ => moveTo (.transit .park .noAction) (abortOpenScan s)
      | .point _ _ | .transit _ .scan | .transit _ .point => moveTo (.transit .park .noAction) s
      | .dwell _ => moveTo (.dwell false) s
      | .transit _ .noAction | .parked | .stopped | .homing _ | .halting | .faulted _ => s)
    ∧ haltOrder s =
      (match s.trc.state with
      | .homing _ | .transit _ _ | .scanning _ _ _ _ | .point _ _ => moveTo .halting (abortOpenScan s)
      | .dwell _ => moveTo .parked (abortDwell s)
      | .stopped | .parked | .halting | .faulted _ => s)
    ∧ (s.slp.resetPending = false →
      scanOrder s = if s.trc.state = .parked then enterScanning s else s)
    ∧ (s.slp.resetPending = true → scanOrder s = s)
    ∧ (s.gtu.openScan = none → abortOpenScan s = s)
    ∧ (∀ o, s.gtu.openScan = some o →
      let t := abortOpenScan s
      t.gtu.openScan = none ∧ t.gtu.comparator = none
        ∧ t.gtu.queue ++ t.gtu.held.toList =
            (s.gtu.queue ++ s.gtu.held.toList).filter
              (fun r => r.kind == .point || r.number != o.number)
        ∧ (let kept (r : SampleRecord) : Bool := r.kind == .point || r.number != o.number
          let queue := s.gtu.queue.filter kept
          let held := s.gtu.held.filter kept
          t.gtu =
            { s.gtu with
              comparator := none, openScan := none
              queue := if queue.length < 8 then queue ++ held.toList else queue
              held := if queue.length < 8 then none else held })
        ∧ t.pfb = { s.pfb with contexts := s.pfb.contexts.filter fun c => c.number != o.number }
        ∧ t.grs = { s.grs with pins := s.grs.pins.filter fun p => p.scan != o.number }
        ∧ (∀ region, s.bkm.watch = .scan o.number region →
          t.bkm = { s.bkm with watch := .off, runCount := 0 })
        ∧ ((∀ region, s.bkm.watch ≠ .scan o.number region) → t.bkm = s.bkm)
        ∧ t.trc = s.trc ∧ t.cve = s.cve ∧ t.sdu = s.sdu ∧ t.plx = s.plx ∧ t.slp = s.slp
        ∧ t.pending = s.pending)

/-- The speed loop run: v_meas, the duty buffer and the stall timer, and what an arrival or a halt makes of the traverse. The order inside one run and v_meas over the jump of homing are the model's: logs 8 and 9. The first run with a stall counts as a millisecond of the stall timer: log 35. -/
def Obligations.SpeedLoopRun : Prop :=
  ∀ s : State,
    let v := (s.trc.position - s.trc.lastPosition) * 1000
    let formed : State :=
      { s with
        trc := { s.trc with vMeas := v, lastPosition := s.trc.position, loopPhase := 0 } }
    let raw := s.trc.buffer + ((s.trc.drive.kp : Int) * (setpoint formed - v)).tdiv 1024
    let buffer : Int := if raw < -1023 then -1023 else if 1023 < raw then 1023 else raw
    let u : State :=
      { formed with
        trc :=
          { formed.trc with
            buffer := buffer
            stallMs :=
              if s.trc.drive.stallDuty ≤ buffer.natAbs ∧ v.natAbs < 50 then
                min 500 (s.trc.stallMs + 1)
              else 0 } }
    (loopRuns s.trc.state = false → exec .speedLoopRun s = .next formed)
    ∧ (isScanning s.trc.state = true ∨ isPoint s.trc.state = true ∨ s.trc.state = .homing .seekClear
        ∨ s.trc.state = .homing .seekHome → exec .speedLoopRun s = .next u)
    ∧ (s.trc.state = .halting →
      exec .speedLoopRun s =
        .next (if v.natAbs < 50 then motionTests (moveTo .stopped u) else u))
    ∧ (∀ g target andThen, s.gtu.geometry = some g → s.trc.state = .transit target andThen →
      exec .speedLoopRun s =
        .next
          (if (s.trc.position - (match target with
                | .park => (g.P : Int)
                | .point position _ => (position : Int))).natAbs ≤ 5 ∧ v.natAbs < 50 then
            motionTests
              (match target, andThen with
              | .point position period, _ => enterPoint position period u
              | .park, .scan => if dwellReady u then enterDwell true u else enterScanning u
              | .park, _ => moveTo .parked u)
          else u))
    ∧ (∀ g, s.gtu.geometry = some g → s.trc.state = .homing (.toPark true) →
      exec .speedLoopRun s =
        .next
          (if (s.trc.position - (g.P : Int)).natAbs ≤ 5 ∧ v.natAbs < 50 then
            motionTests
              { moveTo .parked u with trc := { (moveTo .parked u).trc with homed := true } }
          else u))
    ∧ (s.trc.state = .homing (.toPark false) →
      exec .speedLoopRun s =
        if v.natAbs < 50 then
          exec .speedLoopRun { s with trc := { s.trc with state := .homing (.toPark true) } }
        else .next u)

/-- The bridge takes the buffer at a period start; a trip zeroes the duty and starts an off-time; a stall of 500 ms, a homing timer at 60 s and the eighth trip of a window fault the traverse, which aborts the open scan and any dwell as STOP and the orders do, becomes FAULTED, raises the alarm and changes nothing else. The trip count after the eighth trip is the model's (log 11), and so is homed after a fault in HOMING (log 12). -/
def Obligations.FaultAndBridgeEvents : Prop :=
  (∀ s : State,
      exec .pwmPeriodStart s =
          .next
            { s with
              trc :=
                { s.trc with
                  duty := if loopRuns s.trc.state ∧ s.trc.offTime = none then s.trc.buffer else 0
                  pwmPhase := 0 } }
        ∧ exec .offTimeEnd s = .next { s with trc := { s.trc with offTime := none } }
        ∧ exec .tripWindowEnd s =
          .next { s with trc := { s.trc with tripCount := 0, windowPhase := 0 } }
        ∧ (isFaulted s.trc.state = true → exec .currentTrip s = .next s)
        ∧ (isFaulted s.trc.state = false → s.trc.tripCount < 7 →
          exec .currentTrip s =
            .next
              { s with
                trc :=
                  { s.trc with
                    duty := 0, offTime := some (s.trc.drive.offTimeMs * 1000)
                    tripCount := s.trc.tripCount + 1 } })) ∧
  (∀ s : State,
      (loopRuns s.trc.state = true →
        exec .stallTimeout s = .next (motionTests (enterFaulted .driveStall s)))
      ∧ (isHoming s.trc.state = true →
        exec .homingTimeout s = .next (motionTests (enterFaulted .homingFailed s)))
      ∧ (isFaulted s.trc.state = false → s.trc.tripCount = 7 →
        exec .currentTrip s =
          .next
            (motionTests
              (enterFaulted .driveCurrent
                { s with
                  trc :=
                    { s.trc with
                      duty := 0, offTime := some (s.trc.drive.offTimeMs * 1000), tripCount := 8 } })))
      ∧ ∀ kind,
        let t := enterFaulted kind s
        t.trc.state = .faulted kind ∧ t.trc.buffer = 0 ∧ t.trc.duty = 0 ∧ bridgeEnabled t = false
          ∧ t.trc.homed =
              (s.trc.homed && (kind == .driveCurrent || kind == .driveStall) && !isHoming s.trc.state)
          ∧ t.trc.position = s.trc.position ∧ t.trc.tripCount = s.trc.tripCount
          ∧ (∀ o, s.gtu.openScan = some o → t.gtu.openScan = none
              ∧ (∀ r ∈ t.gtu.queue, r.kind ≠ .point → r.number ≠ o.number)
              ∧ t.pfb = { s.pfb with contexts := s.pfb.contexts.filter fun c => c.number != o.number })
          ∧ (isScanning s.trc.state = true → t.gtu.comparator = none)
          ∧ t.sdu.dwell = none ∧ t.sdu.refs = s.sdu.refs ∧ t.sdu.wanted = s.sdu.wanted
          ∧ t.plx =
              (raiseFor
                (match kind with
                | .driveCurrent => .driveCurrent
                | .driveStall => .driveStall
                | .overtravel => .overtravel
                | .homingFailed => .homingFailed)
                s.trc.position s.pfb.scanNumber s).plx
          ∧ t.slp = s.slp
          ∧ t =
              (let m := moveTo (.faulted kind) (abortDwell (abortOpenScan s))
              raiseFor
                (match kind with
                | .driveCurrent => .driveCurrent
                | .driveStall => .driveStall
                | .overtravel => .overtravel
                | .homingFailed => .homingFailed)
                s.trc.position s.pfb.scanNumber
                { m with
                  trc :=
                    { m.trc with
                      homed :=
                        s.trc.homed && (kind == .driveCurrent || kind == .driveStall)
                          && !isHoming s.trc.state } }))

/-- The setpoint of each traverse state whose loop runs, with every quotient rounded to the nearest integer, halves upward. In TURN the magnitude ramps down outbound and is at least 200 inbound; outbound and inbound are told apart by the comparator (log 10), and a head that has overshot the reversal point counts as at distance 0 (log 36). -/
def Obligations.Setpoints : Prop :=
  ∀ (g : Geometry) (s : State), s.gtu.geometry = some g →
    let ramp := g.U / 2
    let quotient (a b : Nat) : Nat := (2 * a + b) / (2 * b)
    let towards (target : Nat) (speed : Nat) : Int :=
      let d := ((target : Int) - s.trc.position).natAbs
      let magnitude : Int := if d < ramp then quotient (speed * d) ramp else speed
      if s.trc.position ≤ target then magnitude else -magnitude
    (s.trc.state = .halting → setpoint s = 0)
    ∧ (∀ position period, s.trc.state = .point position period →
      setpoint s =
        (let x := 8 * ((position : Int) - s.trc.position)
        if x < -2000 then -2000 else if 2000 < x then 2000 else x))
    ∧ (∀ target andThen, s.trc.state = .transit target andThen →
      setpoint s =
        towards
          (match target with
          | .park => g.P
          | .point position _ => position)
          s.trc.drive.transitSpeed)
    ∧ (s.trc.state = .homing .seekClear → setpoint s = s.trc.drive.homingSpeed)
    ∧ (s.trc.state = .homing .seekHome → setpoint s = -(s.trc.drive.homingSpeed : Int))
    ∧ (s.trc.state = .homing (.toPark false) → setpoint s = 0)
    ∧ (s.trc.state = .homing (.toPark true) → setpoint s = towards g.P s.trc.drive.homingSpeed)
    ∧ ∀ d phase approach park grade, s.trc.state = .scanning d phase approach park →
      activeGrade s = some grade →
      let v := grade.speed
      let ahead : Int := match d with
        | .fwd => (g.W1 : Int) + ramp - s.trc.position
        | .rev => s.trc.position - ((g.W0 : Int) - ramp)
      let behind : Int := match d with
        | .fwd => s.trc.position - ((g.W0 : Int) - ramp)
        | .rev => (g.W1 : Int) + ramp - s.trc.position
      let magnitude : Nat :=
        match phase, approach, s.gtu.comparator with
        | .inWindow, _, _ | .turn, true, _ => v
        | .turn, false, none =>
          if ahead.toNat < ramp then quotient (v * ahead.toNat) ramp else v
        | .turn, false, some _ =>
          if behind.toNat < ramp then max 200 (quotient (v * behind.toNat) ramp) else v
      setpoint s = (match d with
        | .fwd => (magnitude : Int)
        | .rev => -(magnitude : Int))

/-- A frame switch: a raw change restarts its debounce; a settled level has its effect in homing, and a leading edge of a limit switch faults the traverse. That the home edge leaves the position of the last millisecond as it was is the model's: log 8. -/
def Obligations.FrameSwitches : Prop :=
  ∀ (sw : FrameSwitch) (active : Bool) (s : State),
    let d := s.trc.switch sw
    let settled : State :=
      { s with trc := s.trc.withSwitch sw { raw := d.raw, level := d.raw, timer := none } }
    exec (.frameSwitchRawChange sw active) s =
        .next
          (if d.raw = active then s
          else
            { s with
              trc := s.trc.withSwitch sw { raw := active, level := d.level, timer := some 0 } })
      ∧ (d.timer.isSome →
        exec (.frameSwitchSettled sw) s =
          .next
            (if d.raw = d.level then settled
            else
              match sw, d.raw, s.trc.state with
              | .home, false, .homing .seekClear =>
                { settled with trc := { settled.trc with state := .homing .seekHome } }
              | .home, true, .homing .seekHome =>
                { settled with
                  trc :=
                    { settled.trc with
                      state := .homing (.toPark false), homed := true, position := 0 } }
              | .home, _, _ => settled
              | _, false, _ => settled
              | _, true, .homing _ => motionTests (enterFaulted .homingFailed settled)
              | _, true, .faulted _ =>
                raiseFor .overtravel s.trc.position s.pfb.scanNumber
                  { settled with trc := { settled.trc with homed := false } }
              | _, true, _ => motionTests (enterFaulted .overtravel settled)))

/-- An edge moves the position by one and does nothing else when no boundary is matched and no reversal point is reached; a reversal in TURN flips the direction and arms the comparator, or starts the transit to P of a pending standardize. -/
def Obligations.EncoderEdges : Prop :=
  (∀ (front : Bool) (s : State),
      let position := if front then s.trc.position + 1 else s.trc.position - 1
      let moved : State := { s with trc := { s.trc with position := position } }
      let matched := ∃ g c, s.gtu.geometry = some g ∧ s.gtu.comparator = some c ∧
        (match c.direction with
        | .fwd => ((g.W0 + c.target * (g.W1 - g.W0) / (g.Z * g.S) : Nat) : Int) ≤ position
        | .rev => position ≤ ((g.W0 + c.target * (g.W1 - g.W0) / (g.Z * g.S) : Nat) : Int))
      let reached := ∃ g a p, s.gtu.geometry = some g ∧
        ((s.trc.state = .scanning .fwd .turn a p ∧ (g.W1 : Int) + (g.U / 2 : Nat) ≤ position)
          ∨ (s.trc.state = .scanning .rev .turn a p ∧ position ≤ (g.W0 : Int) - (g.U / 2 : Nat)))
      ¬ matched → ¬ reached → exec (.encoderEdge front) s = .next moved) ∧
  (∀ (front approach park : Bool) (g : Geometry) (s : State),
      let position := if front then s.trc.position + 1 else s.trc.position - 1
      let moved : State := { s with trc := { s.trc with position := position } }
      let armed (d : Direction) (target : Nat) : State :=
        let m := moveTo (.scanning d .turn false park) moved
        { m with gtu := { m.gtu with comparator := some { direction := d, target := target } } }
      s.gtu.geometry = some g → s.gtu.comparator = none →
      (s.trc.state = .scanning .fwd .turn approach park →
          (g.W1 : Int) + (g.U / 2 : Nat) ≤ position →
          exec (.encoderEdge front) s = .next (armed .rev (g.Z * g.S)))
        ∧ (s.trc.state = .scanning .rev .turn approach park →
          position ≤ (g.W0 : Int) - (g.U / 2 : Nat) →
          exec (.encoderEdge front) s =
            .next
              (if s.sdu.wanted ∧ s.bkm.state ≠ .probing then
                motionTests (moveTo (.transit .park .scan) moved)
              else armed .fwd 0)))

/-- The match of a boundary between the first and the last closes the gate of the slot just crossed: its record is placed, or discarded in a SKIPPED scan, the counters are cleared and the target moves on. T at the reset of the gate timer is the model's: log 3. -/
def Obligations.BoundaryMatch : Prop :=
  ∀ (front approach park : Bool) (d : Direction) (g : Geometry) (target number : Nat)
    (kind : ScanKind) (s : State),
    let position := if front then s.trc.position + 1 else s.trc.position - 1
    let b : Nat := g.W0 + target * (g.W1 - g.W0) / (g.Z * g.S)
    s.gtu.geometry = some g → s.trc.state = .scanning d .inWindow approach park →
    s.gtu.comparator = some { direction := d, target := target } →
    s.gtu.openScan = some { number := number, kind := kind } →
    target ≠ 0 → target ≠ g.Z * g.S →
    (match d with
    | .fwd => (b : Int) ≤ position
    | .rev => position ≤ (b : Int)) →
    let time := max 1 s.gtu.gateTimer
    let full := 16777215
    let c := s.gtu.counters
    let record (k : SampleKind) : SampleRecord :=
      { kind := k, number := number
        slot := some (match d with
          | .fwd => target - 1
          | .rev => target)
        direction := some d, gateTime := time, counts := c
        flags :=
          { shortGate := time < 2000, longGate := time == full
            satBw := c.bwc == full, satMa := c.mac == full, satMr := c.mrc == full
            satCl := c.clc == full, shutterUnconfirmed := s.gtu.unconfirmed } }
    let captured : State :=
      { s with
        trc := { s.trc with position := position }
        gtu :=
          { s.gtu with
            gateTimer := 0, counters := { bwc := 0, mac := 0, mrc := 0, clc := 0 }
            unconfirmed := !s.sdu.confirm.level } }
    let placed := match kind with
      | .normal => place (record .scan) captured
      | .probe => place (record .probe) captured
      | .skipped => captured
    exec (.encoderEdge front) s =
      .next
        (engineTests
          (motionTests
            (passTests
              { placed with
                gtu :=
                  { placed.gtu with
                    comparator :=
                      some
                        { direction := d
                          target := match d with
                            | .fwd => target + 1
                            | .rev => target - 1 } } })))

/-- The match of the first boundary is the scan start: the scan takes its number, slot, kind, accumulator and pin, a staged slot becoming active first. The order of its parts and the start order field are the model's: logs 19 and 20. A NORMAL scan with published edges is watched over the zones from first + G to last − G. -/
def Obligations.ScanStart : Prop :=
  ∀ (front approach park : Bool) (phase : ScanPhase) (d : Direction) (g : Geometry) (s : State),
    let position := if front then s.trc.position + 1 else s.trc.position - 1
    let N := g.Z * g.S
    let first := match d with
      | .fwd => 0
      | .rev => N
    s.gtu.geometry = some g → s.trc.state = .scanning d phase approach park → g.inRange = true →
    s.gtu.comparator = some { direction := d, target := first } →
    (match d with
    | .fwd => (g.W0 : Int) ≤ position
    | .rev => position ≤ (g.W1 : Int)) →
    ∃ m, exec (.encoderEdge front) s = .next (engineTests (motionTests (passTests m)))
      ∧ (let number := if s.pfb.scanNumber = 4294967295 then 1 else s.pfb.scanNumber + 1
        let active := s.grs.staged.orElse fun _ => s.grs.active
        let held (a : AccId) : Bool := s.pfb.contexts.any fun c => c.accumulator == some a
        let both := held .acc0 && held .acc1
        let kind : ScanKind :=
          if both then .skipped
          else
            match s.bkm.state with
            | .clear => .normal
            | .probing => .probe
            | .broken | .waiting _ => .skipped
        let acc : Option AccId :=
          if kind = .skipped then none else if held .acc0 then some .acc1 else some .acc0
        m.trc.state = .scanning d .inWindow false park ∧ m.trc.position = position
          ∧ m.pfb.scanNumber = number
          ∧ m.grs.active = active ∧ m.grs.staged = none
          ∧ m.grs.pins = s.grs.pins ++ [{ scan := number, slot := active }]
          ∧ m.grs.slots = s.grs.slots
          ∧ m.pfb.contexts =
              s.pfb.contexts ++
                [{ number := number, order := s.pfb.starts + 1, kind := kind, direction := d
                   slot := active, accumulator := acc, stage := .gating, gateNotice := false }]
          ∧ (∀ a, acc = some a → m.pfb.entries a = List.replicate N .cleared)
          ∧ m.pfb.summaries = (if s.pfb.scanNumber = 4294967295 then [] else s.pfb.summaries)
          ∧ m.pfb.reseed =
              (if s.grs.staged.isSome then
                (setReseed { scan := number, order := s.pfb.starts + 1 } s).pfb.reseed
              else s.pfb.reseed)
          ∧ m.gtu.openScan = some { number := number, kind := kind }
          ∧ m.gtu.comparator =
              some
                { direction := d
                  target := match d with
                    | .fwd => 1
                    | .rev => N - 1 }
          ∧ m.gtu.gateTimer = 0 ∧ m.gtu.counters = { bwc := 0, mac := 0, mrc := 0, clc := 0 }
          ∧ m.gtu.queue = s.gtu.queue ∧ m.gtu.held = s.gtu.held
          ∧ m.bkm.runCount = 0
          ∧ (kind ≠ .normal ∨ s.pfb.publishedEdges = none → m.bkm.watch = .off)
          ∧ (∀ first last grade, kind = .normal → s.pfb.publishedEdges = some (first, last) →
              gradeAt s active = some grade →
              m.bkm.watch =
                .scan number
                  (if first + 2 * grade.edgeGuard ≤ last then
                    some (first + grade.edgeGuard, last - grade.edgeGuard)
                  else none))
          ∧ m.bkm.state = s.bkm.state
          ∧ m.plx =
              (if both then (raiseFor .scanSkipped number number s).plx else s.plx)
          ∧ m.sdu = s.sdu ∧ m.slp = s.slp ∧ m.cve = s.cve)

/-- The match of the last boundary is the scan end: the last record is placed, the comparator goes idle, the phase becomes TURN or, with park-after-scan, a transit to P begins, and the scan's context is ENDED, or removed with its pin when SKIPPED. The record of the last slot is placed also when the queue is full, by the rule of RecordPlacement. T at the reset of the gate timer is the model's: log 3. -/
def Obligations.ScanEnd : Prop :=
  ∀ (front approach park : Bool) (d : Direction) (g : Geometry) (o : OpenScan) (s : State),
    let position := if front then s.trc.position + 1 else s.trc.position - 1
    let N := g.Z * g.S
    s.gtu.geometry = some g → s.trc.state = .scanning d .inWindow approach park →
    g.inRange = true →
    s.gtu.comparator = some { direction := d, target := match d with
      | .fwd => N
      | .rev => 0 } →
    s.gtu.openScan = some o →
    (match d with
    | .fwd => (g.W1 : Int) ≤ position ∧ position < g.W1 + (g.U / 2 : Nat)
    | .rev => position ≤ (g.W0 : Int) ∧ (g.W0 : Int) - (g.U / 2 : Nat) < position) →
    ∃ m, exec (.encoderEdge front) s = .next (engineTests (motionTests (passTests m)))
      ∧ m.trc.state =
          (if park then .transit .park .noAction else .scanning d .turn approach false)
      ∧ m.gtu.comparator = none ∧ m.gtu.openScan = none
      ∧ m.gtu.gateTimer = 0 ∧ m.gtu.counters = { bwc := 0, mac := 0, mrc := 0, clc := 0 }
      ∧ (o.kind = .skipped → m.gtu.queue = s.gtu.queue ∧ m.gtu.held = s.gtu.held
          ∧ ((∃ c ∈ s.pfb.contexts, c.number = o.number) →
              (∀ c ∈ s.pfb.contexts, c.number = o.number → c.kind = .skipped) →
              m.pfb.contexts = s.pfb.contexts.filter (fun c => c.number != o.number)
                ∧ m.grs.pins = s.grs.pins.filter (fun p => p.scan != o.number)))
      ∧ (o.kind ≠ .skipped → s.gtu.queue.length < 8 →
          (∃ r : SampleRecord, m.gtu.queue = s.gtu.queue ++ [r] ∧ r.number = o.number
            ∧ r.slot = some (match d with
              | .fwd => N - 1
              | .rev => 0)
            ∧ r.gateTime = max 1 s.gtu.gateTimer ∧ r.counts = s.gtu.counters)
          ∧ ((∀ c ∈ s.pfb.contexts, c.number = o.number → c.kind ≠ .skipped) →
              m.grs.pins = s.grs.pins
                ∧ m.pfb.contexts = s.pfb.contexts.map fun c =>
                    if c.number = o.number then { c with stage := .ended } else c))
      ∧ (o.kind ≠ .skipped → (∀ c ∈ s.pfb.contexts, c.number = o.number → c.kind ≠ .skipped) →
          let time := max 1 s.gtu.gateTimer
          let full := 16777215
          let n := s.gtu.counters
          let record : SampleRecord :=
            { kind := if o.kind = .probe then .probe else .scan, number := o.number
              slot := some (match d with
                | .fwd => N - 1
                | .rev => 0)
              direction := some d, gateTime := time, counts := n
              flags :=
                { shortGate := time < 2000, longGate := time == full
                  satBw := n.bwc == full, satMa := n.mac == full, satMr := n.mrc == full
                  satCl := n.clc == full, shutterUnconfirmed := s.gtu.unconfirmed } }
          let placed :=
            place record
              { s with
                trc := { s.trc with position := position }
                gtu :=
                  { s.gtu with
                    gateTimer := 0, counters := { bwc := 0, mac := 0, mrc := 0, clc := 0 }
                    unconfirmed := !s.sdu.confirm.level } }
          m =
            { placed with
              trc := (moveTo (if park then .transit .park .noAction else .scanning d .turn approach false)
                placed).trc
              gtu := { placed.gtu with comparator := none, openScan := none }
              pfb :=
                { placed.pfb with
                  contexts := s.pfb.contexts.map fun c =>
                    if c.number = o.number then { c with stage := .ended } else c } })

/-- A pulse adds one to its counter, saturating at 16777215; an expiry of the point timer clears the counters, raises the sequence number by one and places a POINT record that carries it. T at the expiry of the point timer and the end of the sequence are the model's: logs 3 and 21. An overrun of it may complete an ended scan in the same event. The counters are taken within their range. -/
def Obligations.PulsesAndPointGates : Prop :=
  (∀ (input : HeadInput) (s : State), s.gtu.counters.bwc ≤ 16777215 → s.gtu.counters.mac ≤ 16777215 →
      s.gtu.counters.mrc ≤ 16777215 → s.gtu.counters.clc ≤ 16777215 →
      ∃ c : Counts, exec (.headPulse input) s = .next { s with gtu := { s.gtu with counters := c } }
        ∧ c.bwc = (if input = .bwc then min 16777215 (s.gtu.counters.bwc + 1) else s.gtu.counters.bwc)
        ∧ c.mac = (if input = .mac then min 16777215 (s.gtu.counters.mac + 1) else s.gtu.counters.mac)
        ∧ c.mrc = (if input = .mrc then min 16777215 (s.gtu.counters.mrc + 1) else s.gtu.counters.mrc)
        ∧ c.clc = (if input = .clc then min 16777215 (s.gtu.counters.clc + 1) else s.gtu.counters.clc)) ∧
  (∀ (position period : Nat) (s : State), s.trc.state = .point position period →
      s.gtu.pointTimer.isSome → s.gtu.pointSequence < 4294967295 →
      let time := max (period * 1000) (max 1 s.gtu.gateTimer)
      let c := s.gtu.counters
      let full := 16777215
      let record : SampleRecord :=
        { kind := .point, number := s.gtu.pointSequence + 1, slot := none, direction := none
          gateTime := time, counts := c
          flags :=
            { shortGate := time < 2000, longGate := time == full
              satBw := c.bwc == full, satMa := c.mac == full, satMr := c.mrc == full
              satCl := c.clc == full, shutterUnconfirmed := s.gtu.unconfirmed } }
      exec .pointTimerExpiry s =
        .next
          (engineTests
            (passTests
              (place record
                { s with
                  gtu :=
                    { s.gtu with
                      gateTimer := 0, counters := { bwc := 0, mac := 0, mrc := 0, clc := 0 }
                      unconfirmed := !s.sdu.confirm.level
                      pointSequence := s.gtu.pointSequence + 1, pointTimer := some 0 } }))))

/-- Placing a record: the queue takes it while it holds fewer than 8, the holding record takes the ninth, and a tenth displaces the held one, whose slot is marked MISSED. When an ended scan becomes complete, when its pass begins, and the notice that follows the arbiter's choice. That a newer scan that is complete first begins its pass first is the model's: log 37. -/
def Obligations.RecordPlacement : Prop :=
  (∀ s : State,
      let gone (g : GateUnit) (c : ScanContext) : Bool :=
        (g.queue ++ g.held.toList).all fun r => r.kind == .point || r.number != c.number
      let idle (c : ScanContext) : Bool :=
        match s.cve.job with
        | some (.sample j) => j.record.kind == .point || j.record.number != c.number
        | _ => true
      let noticed (g : GateUnit) (c : ScanContext) : ScanContext :=
        { c with gateNotice := c.gateNotice || (c.stage == .ended && gone g c) }
      let completed := s.pfb.contexts.map fun c =>
        let n := noticed s.gtu c
        if n.stage = .ended ∧ n.gateNotice = true ∧ idle n = true then { n with stage := .complete } else n
      let kept : State := { s with pfb := { s.pfb with contexts := completed } }
      (s.pfb.pass.isSome ∨ (∀ c ∈ completed, c.stage ≠ .complete) → passTests s = kept)
        ∧ (∀ before c rest, s.pfb.pass = none → completed = before ++ c :: rest → c.stage = .complete →
          (∀ x ∈ before, x.stage ≠ .complete) →
          passTests s =
            { s with
              pfb :=
                { s.pfb with
                  contexts := completed.map fun x =>
                    if x.number = c.number then { x with stage := .inPass } else x
                  pass :=
                    some
                      { scan := c.number, step := .assembly, nextZone := 0, offered := true, zones := []
                        edges := { span := none, width := 0, holes := 0 }
                        sums := .const
                          { n := 0, sum := 0, sumSq := 0, least := none, greatest := none
                            clampedSlots := 0 }
                        reseeded := false } } })
        ∧ (let a := arbitrate s
          engineTests s = { a with pfb := { a.pfb with contexts := a.pfb.contexts.map (noticed a.gtu) } })) ∧
  ∀ (r : SampleRecord) (s : State),
    (s.gtu.queue.length < 8 →
      place r s = { s with gtu := { s.gtu with queue := s.gtu.queue ++ [r] } })
    ∧ (8 ≤ s.gtu.queue.length → s.gtu.held = none →
      place r s = { s with gtu := { s.gtu with held := some r } })
    ∧ (∀ old, 8 ≤ s.gtu.queue.length → s.gtu.held = some old → old.kind = .point →
      place r s =
        raiseFor .sampleOverrun old.number s.pfb.scanNumber
          { s with gtu := { s.gtu with held := some r } })
    ∧ (∀ old slot c a g, 8 ≤ s.gtu.queue.length → s.gtu.held = some old → old.kind ≠ .point →
      old.slot = some slot → contextOf s old.number = some c → c.accumulator = some a →
      s.gtu.geometry = some g →
      let t := place r s
      t.gtu = { s.gtu with held := some r }
        ∧ t.plx = (raiseFor .sampleOverrun ((slot / g.S : Nat) : Int) old.number s).plx
        ∧ t.pfb.contexts = s.pfb.contexts
        ∧ (∀ b j, (t.pfb.entries b)[j]? =
            ((s.pfb.entries b)[j]?).map fun e =>
              if b = a ∧ j = slot then { e with missed := true } else e)
        ∧ t.trc = s.trc ∧ t.cve = s.cve ∧ t.grs = s.grs ∧ t.sdu = s.sdu ∧ t.bkm = s.bkm
        ∧ t.slp = s.slp)

/-- An expiry of the sub-gate timer adds the sub-gate to the sums of its phase; the last of the DARK phase opens the shutter, the last of the AIR phase posts the evaluation. T at the expiry of the sub-gate timer is the model's: log 3. -/
def Obligations.DwellSubGates : Prop :=
  ∀ (d : DwellRecord) (s : State), s.sdu.dwell = some d → s.gtu.subGateTimer.isSome →
    d.step = .dark ∨ d.step = .air →
    let c := s.gtu.counters
    let time := max 1000000 (max 1 s.gtu.gateTimer)
    let full := 16777215
    let add (p : PhaseSums) : PhaseSums :=
      { time := p.time + time, bw := p.bw + c.bwc, ma := p.ma + c.mac, mr := p.mr + c.mrc
        cl := p.cl + c.clc }
    let last : Bool := decide (s.sdu.settings.phaseLength ≤ d.taken + 1)
    let after : DwellRecord :=
      if d.step = .dark then
        { d with
          dark := add d.dark, satBw := d.satBw || c.bwc == full
          taken := if last then 0 else d.taken + 1
          step := if last then .opening else .dark }
      else
        { d with
          air := add d.air, taken := d.taken + 1
          satBw := d.satBw || c.bwc == full, satMa := d.satMa || c.mac == full
          satMr := d.satMr || c.mrc == full, satCl := d.satCl || c.clc == full
          step := if last then .evaluating else .air }
    exec .subGateExpiry s =
      .next
        (engineTests
          (shutterFollow
            { s with
              gtu :=
                { s.gtu with
                  gateTimer := 0, counters := { bwc := 0, mac := 0, mrc := 0, clc := 0 }
                  unconfirmed := !s.sdu.confirm.level
                  subGateTimer := if last then none else some 0 }
              sdu :=
                { s.sdu with
                  dwell := some after
                  posted :=
                    if d.step = .air ∧ last then some (after.dark, after.air)
                    else s.sdu.posted } }))

/-- The arbiter takes a posted evaluation first, then a sample job and a pass chunk in turn, and lets a job in progress run; a sample job fixes its grade and the references when it is taken. -/
def Obligations.ArbiterChoice : Prop :=
  ∀ s : State,
    (s.cve.job ≠ none → arbitrate s = s)
    ∧ (s.cve.job = none →
      let offered := s.pfb.pass.filter PassRecord.offered
      (∀ dark air, s.sdu.posted = some (dark, air) →
        arbitrate s =
          { s with
            cve := { s.cve with job := some (.evaluation { dark := dark, air := air, stale := false }) }
            sdu := { s.sdu with posted := none } })
      ∧ (∀ r rest, s.sdu.posted = none → s.gtu.queue = r :: rest →
        (offered = none ∨ s.cve.lastServed = .pass) → rest.length < 8 →
        arbitrate s =
          { s with
            cve :=
              { job :=
                  some
                    (.sample
                      { record := r, stale := false, refs := s.sdu.refs
                        grade :=
                          if r.kind = .point then gradeAt s s.grs.active
                          else gradeAt s ((contextOf s r.number).bind ScanContext.slot) })
                lastServed := .sample }
            gtu := { s.gtu with queue := rest ++ s.gtu.held.toList, held := none } })
      ∧ (∀ p, s.sdu.posted = none → offered = some p →
        (s.gtu.queue = [] ∨ s.cve.lastServed = .sample) →
        arbitrate s =
          { s with
            cve :=
              { job := some (.chunk { scan := p.scan, step := p.step, firstZone := p.nextZone })
                lastServed := .pass }
            pfb := { s.pfb with pass := some { p with offered := false } } })
      ∧ (s.sdu.posted = none → s.gtu.queue = [] → offered = none → arbitrate s = s))

/-- The completion of a sample job stores its record's result, converted under the grade and the references fixed when it was taken, in the scan's accumulator, or in the trend ring, and hands the BW reading to the break monitor; what is stale or abandoned is discarded. -/
def Obligations.SampleJobs : Prop :=
  ∀ (j : SampleJob) (s : State), s.cve.job = some (.sample j) →
    let idle : State := { s with cve := { s.cve with job := none } }
    let result := convert j
    (∀ g, j.grade = some g → result = convertUnder g j.record j.refs)
    ∧ (∀ n, contextOf s n = s.pfb.contexts.find? fun c => c.number == n) ∧
    let handed (stored : State) : Completed :=
      .next (engineTests (motionTests (passTests (watchResult j result.bw stored))))
    (j.record.kind = .point → j.stale = true → exec .sampleJobComplete s = handed idle)
    ∧ (j.record.kind = .point → j.stale = false → s.pfb.trend.length ≤ 64 →
      ∃ ring : List TrendEntry,
        exec .sampleJobComplete s = handed { idle with pfb := { idle.pfb with trend := ring } }
          ∧ ring =
            (if s.pfb.trend.length = 64 then s.pfb.trend.tail else s.pfb.trend) ++
              [{ sequence := j.record.number, readings := result
                 flags := { gate := j.record.flags, notStd := j.refs.r0 == 0 } }])
    ∧ (j.record.kind ≠ .point → contextOf s j.record.number = none →
      exec .sampleJobComplete s = handed idle)
    ∧ (∀ c a slot, j.record.kind ≠ .point → contextOf s j.record.number = some c →
      c.accumulator = some a → j.record.slot = some slot →
      ∃ stored : State, exec .sampleJobComplete s = handed stored
        ∧ (∀ b i, (stored.pfb.entries b)[i]? =
            ((s.pfb.entries b)[i]?).map fun e =>
              if b = a ∧ i = slot then { e with readings := result } else e)
        ∧ { stored with pfb := { stored.pfb with acc0 := s.pfb.acc0, acc1 := s.pfb.acc1 } } = idle)

/-- The conversion of a record under a grade: absent channels, the gate check, and the BW, MOI, DRY and CAL stages. An indication is set where the exact quotient lies beyond its range. -/
def Obligations.SlotConversion : Prop :=
  ∀ (g : GradeRecord) (r : SampleRecord) (refs : References),
    let result := convertUnder g r refs
    let fails := r.flags.shortGate || r.flags.longGate || r.flags.shutterUnconfirmed
    let quotient (a b : Nat) : Nat := (2 * a + b) / (2 * b)
    (g.moisture = none ∨ refs.q0 = 0 → result.moi = .absent ∧ result.dry = .absent)
    ∧ (g.caliper = none ∨ refs.f0 = 0 → result.cal = .absent)
    ∧ (fails = true → result.bw = .invalid
        ∧ (g.moisture.isSome → refs.q0 ≠ 0 → result.moi = .invalid ∧ result.dry = .invalid)
        ∧ (g.caliper.isSome → refs.f0 ≠ 0 → result.cal = .invalid))
    ∧ (fails = false →
      (r.flags.satBw = true ∨ refs.r0 = 0 → result.bw = .invalid)
      ∧ (r.flags.satBw = false → refs.r0 ≠ 0 →
        let beyond := 16777215 * r.gateTime < r.counts.bwc * 1000000
        let rate := if beyond then 16777215 else quotient (r.counts.bwc * 1000000) r.gateTime
        let net := (rate - refs.b) * 65536
        let y := lookup g.bwTable (min 65535 (quotient net refs.r0))
        result.bw = .valid y.1 (decide beyond || decide (65535 * refs.r0 < net) || y.2))
      ∧ (∀ m, g.moisture = some m → refs.q0 ≠ 0 →
        (r.flags.satMa = true ∨ r.flags.satMr = true ∨ r.counts.mrc = 0 →
          result.moi = .invalid ∧ result.dry = .invalid)
        ∧ (result.bw = .invalid → result.moi = .invalid ∧ result.dry = .invalid)
        ∧ (∀ v clamped, r.flags.satMa = false → r.flags.satMr = false → r.counts.mrc ≠ 0 →
          result.bw = .valid v clamped →
          let q := min 65535 (quotient (r.counts.mac * 16384) r.counts.mrc)
          let w := lookup m.table (min 65535 (quotient (q * 16384) refs.q0))
          let marked :=
            decide (65535 * r.counts.mrc < r.counts.mac * 16384)
              || decide (65535 * refs.q0 < q * 16384) || w.2
          let share := quotient (w.1 * 10000) v
          (v < m.floor ∨ v = 0 → result.moi = .invalid ∧ result.dry = .invalid)
          ∧ (m.floor ≤ v → 0 < v →
            result.moi = .valid (min 9999 share) (marked || decide (9999 * v < w.1 * 10000))
              ∧ result.dry = .valid (v - w.1) (clamped || marked || decide (v < w.1)))))
      ∧ (∀ table, g.caliper = some table → refs.f0 ≠ 0 →
        (r.flags.satCl = true → result.cal = .invalid)
        ∧ (r.flags.satCl = false →
          let beyond := 16777215 * r.gateTime < r.counts.clc * 1000000
          let rate := if beyond then 16777215 else quotient (r.counts.clc * 1000000) r.gateTime
          let y := lookup table (min 65535 (rate - refs.f0))
          result.cal =
            .valid y.1
              (decide beyond || decide (rate < refs.f0) || decide (65535 < rate - refs.f0) || y.2))))

/-- Step A assembles a channel of a zone from its slots; step B marks zones on-sheet and finds first, last, width and the number of holes. -/
def Obligations.AssemblyAndEdges : Prop :=
  (∀ (g : GradeRecord) (ch : Channel) (slots : List SlotEntry),
      let lacking := match ch with
        | .bw => false
        | .moi | .dry => g.moisture.isNone
        | .cal => g.caliper.isNone
      let present := slots.filter fun e => !e.missed
      let values := present.filterMap fun e => match e.readings.get ch with
        | .valid v _ => some v
        | _ => none
      let absent : Prop :=
        lacking = true ∨ (present ≠ [] ∧ ∀ e ∈ present, e.readings.get ch = .absent)
      (absent → assembleChannel g slots ch = .absent)
      ∧ (¬ absent → (slots.length + 1) / 2 ≤ values.length → 0 < values.length →
        ∃ v, assembleChannel g slots ch = .valid v
          ∧ v = (2 * values.sum + values.length) / (2 * values.length)
          ∧ (∃ low ∈ values, low ≤ v) ∧ ∃ high ∈ values, v ≤ high)
      ∧ (¬ absent → values.length < (slots.length + 1) / 2 ∨ values = [] →
        assembleChannel g slots ch = .invalid)) ∧
  (∀ (g : GradeRecord) (p : PassRecord),
      let q := stepB g p
      let onSheet (z : Nat) : Prop :=
        ∃ e v, p.zones[z]? = some e ∧ e.readings.bw = .valid v ∧ g.edgeThreshold ≤ v
      q.zones.length = p.zones.length
        ∧ (∀ z e, q.zones[z]? = some e → (e.onSheet = true ↔ onSheet z)
            ∧ (p.zones[z]?.map ZoneEntry.readings) = some e.readings)
        ∧ ((∀ z, ¬ onSheet z) → q.edges = { span := none, width := 0, holes := 0 })
        ∧ (∀ first last, onSheet first → onSheet last →
            (∀ z, onSheet z → first ≤ z ∧ z ≤ last) →
            q.edges.span = some (first, last) ∧ q.edges.width = last - first + 1
              ∧ q.edges.holes =
                  ((List.range p.zones.length).countP fun z =>
                    decide (first < z ∧ z < last) &&
                      ((p.zones[z]?).any fun e => match e.readings.bw with
                        | .valid v => decide (v < g.edgeThreshold)
                        | _ => false)))
        ∧ q.step = .statistics ∧ q.nextZone = 0 ∧ q.offered = true)

/-- Nearest-away rounds to the nearest integer, halves away from zero; a table lookup interpolates on the first enclosing segment within its outputs, or gives an end output, clamped; a table is valid exactly when its length, its keys and its outputs are as a table's must be. -/
def Obligations.TableLookup : Prop :=
  (∀ n d : Int, d ≠ 0 →
      let r := nearestAway n d
      r.natAbs = (2 * n.natAbs + d.natAbs) / (2 * d.natAbs)
        ∧ (0 < n * d → 0 ≤ r) ∧ (n * d < 0 → r ≤ 0)
        ∧ 2 * (r * d - n).natAbs ≤ d.natAbs
        ∧ (2 * (r * d - n).natAbs = d.natAbs → n.natAbs < r.natAbs * d.natAbs)) ∧
  (∀ (t : Table) (x : Nat), tableValid t = true →
      (∀ i p q, t[i]? = some p → t[i + 1]? = some q →
        (p.1 ≤ x ∧ x ≤ q.1 ∨ q.1 ≤ x ∧ x ≤ p.1) →
        (∀ j a b, j < i → t[j]? = some a → t[j + 1]? = some b →
          ¬ (a.1 ≤ x ∧ x ≤ b.1 ∨ b.1 ≤ x ∧ x ≤ a.1)) →
        (lookup t x).2 = false
          ∧ ((lookup t x).1 : Int) =
            p.2 + nearestAway (((q.2 : Int) - p.2) * ((x : Int) - p.1)) ((q.1 : Int) - p.1)
          ∧ min p.2 q.2 ≤ (lookup t x).1 ∧ (lookup t x).1 ≤ max p.2 q.2)
      ∧ (∀ p q, t[0]? = some p → t[1]? = some q →
        (p.1 < q.1 ∧ x < p.1) ∨ (q.1 < p.1 ∧ p.1 < x) → lookup t x = (p.2, true))
      ∧ (∀ p q z, t[0]? = some p → t[1]? = some q → t.getLast? = some z →
        (p.1 < q.1 ∧ z.1 < x) ∨ (q.1 < p.1 ∧ x < z.1) → lookup t x = (z.2, true))) ∧
  (∀ t : Table,
      tableValid t = true ↔
        (2 ≤ t.length ∧ t.length ≤ 16) ∧ (∀ p ∈ t, p.1 ≤ 65535 ∧ p.2 ≤ 65535)
          ∧ ((t.map Prod.fst).Pairwise (· < ·) ∨ (t.map Prod.fst).Pairwise (· > ·)))

/-- The statistics of a channel over its values: the mean rounded to nearest, and 2σ as twice the largest integer whose square is at most the truncated variance, held to 65535. The status of a channel, the four scan alarm conditions with their details, and the summary of a pass. -/
def Obligations.Statistics : Prop :=
  ((∀ v : Nat, isqrt v * isqrt v ≤ v ∧ v < (isqrt v + 1) * (isqrt v + 1))
    ∧ (∀ (values : List (Nat × Nat)), values ≠ [] → (values.map Prod.snd).Pairwise (· < ·) →
      let r := values.foldl (fun r x => addValue x.1 x.2 r) RunningSums.zero
      let n := values.length
      let sum := (values.map Prod.fst).sum
      let mean := (2 * sum + n) / (2 * n)
      let squares := (values.map fun x => ((x.1 : Int) - mean) * ((x.1 : Int) - mean)).sum
      let f := figuresOf r
      r.n = n ∧ f.mean = mean
        ∧ f.twoSigma = min 65535 (2 * isqrt (squares.toNat / n))
        ∧ (f.least, f.leastZone) ∈ values ∧ (f.greatest, f.greatestZone) ∈ values
        ∧ ∀ x ∈ values,
          (f.least < x.1 ∨ (f.least = x.1 ∧ f.leastZone ≤ x.2))
            ∧ (x.1 < f.greatest ∨ (x.1 = f.greatest ∧ f.greatestZone ≤ x.2)))) ∧
  (∀ (p : PassRecord) (ch : Channel),
      let r := p.sums.get ch
      let c := channelSummary p ch
      let absent : Prop := ∀ z ∈ p.zones, z.readings.get ch = .absent
      c.n = r.n ∧ c.clampedSlots = r.clampedSlots ∧ (0 < r.n → c.status = .ok (figuresOf r))
        ∧ (r.n = 0 → absent → c.status = .absent) ∧ (r.n = 0 → ¬ absent → c.status = .noData)) ∧
  (∀ (g : GradeRecord) (p : PassRecord),
      let conditions := scanConditions g p
      let detail (kind : AlarmKind) (d : Nat) : Prop := (kind, some d) ∈ conditions
      let mean (ch : Channel) (d : Nat) : Prop :=
        ∃ f, (channelSummary p ch).status = .ok f ∧ f.mean = d
      let hole (z : Nat) : Prop :=
        ∃ first last e v, p.edges.span = some (first, last) ∧ first < z ∧ z < last
          ∧ p.zones[z]? = some e ∧ e.onSheet = false ∧ e.readings.bw = .valid v
      conditions.map Prod.fst = [.bwDeviation, .moiDeviation, .bwSpread, .edgeHole]
        ∧ ∀ d, (detail .bwDeviation d ↔
            g.bwBand ≠ 0 ∧ mean .bw d ∧ g.bwBand < ((d : Int) - g.bwTarget).natAbs)
          ∧ (detail .moiDeviation d ↔
            ∃ m, g.moisture = some m ∧ m.band ≠ 0 ∧ mean .moi d
              ∧ m.band < ((d : Int) - m.target).natAbs)
          ∧ (detail .bwSpread d ↔
            g.spreadLimit ≠ 0 ∧ g.spreadLimit < d
              ∧ ∃ f, (channelSummary p .bw).status = .ok f ∧ f.twoSigma = d)
          ∧ (detail .edgeHole d ↔ hole d ∧ ∀ z, hole z → d ≤ z)) ∧
  (∀ (s : State) (c : ScanContext) (g : GradeRecord) (entries : List SlotEntry) (p : PassRecord),
      let x := buildSummary s c g entries p
      x =
          { number := c.number, direction := c.direction, slot := c.slot, gradeCode := g.code
            reseeded := p.reseeded, suspectBw := s.sdu.bw.suspect, suspectMoi := s.sdu.moi.suspect
            suspectCal := s.sdu.cal.suspect, edges := p.edges
            channels := .build (channelSummary p), kinds := x.kinds }
        ∧ ∀ kind, kind ∈ x.kinds ↔
          (∃ d, (kind, some d) ∈ scanConditions g p)
            ∨ (kind = .sampleOverrun ∧ ∃ e ∈ entries, e.missed = true))

/-- Floor-shift moves a value towards the new one and never past it; step D filters the VALID zones between first and last, keeps every other filtered value, and counts the ages. -/
def Obligations.ProfileFilter : Prop :=
  (∀ (k : Nat) (d : Int), 1 ≤ k → k ≤ 6 →
      floorShift k d = (d + 2 ^ (k - 1)) / 2 ^ k
        ∧ (0 ≤ d → 0 ≤ floorShift k d ∧ floorShift k d ≤ d)
        ∧ (d ≤ 0 → d ≤ floorShift k d ∧ floorShift k d ≤ 0)) ∧
  (∀ (p : PassRecord) (shift z : Nat) (reading : ZoneReading) (c : ProfileCell),
      let within : Prop := ∃ first last, p.edges.span = some (first, last) ∧ first ≤ z ∧ z ≤ last
      let after := filterCell p shift z reading c
      (∀ v, reading = .valid v → after.last = .valid v)
      ∧ (reading = .invalid → after.last = .invalid) ∧ (reading = .absent → after.last = .absent)
      ∧ (∀ v, within → reading = .valid v →
        after.age = 0
          ∧ (p.reseeded = true ∨ shift = 0 ∨ c.filtered = none → after.filtered = some v)
          ∧ (∀ f, p.reseeded = false → 1 ≤ shift → shift ≤ 6 → c.filtered = some f →
            ∃ y : Nat, after.filtered = some y
              ∧ (y : Int) = f + ((v : Int) - f + 2 ^ (shift - 1)) / 2 ^ shift
              ∧ min f v ≤ y ∧ y ≤ max f v))
      ∧ (¬ within ∨ reading = .invalid ∨ reading = .absent →
        after.filtered = c.filtered ∧ after.age = min 255 (c.age + 1)))

/-- The completion of a pass chunk: steps A to E in turn over zones of 16, the ends of a PROBE pass and of one too narrow (judged by the width alone, the model's choice where the grade's minimum exceeds Z: log 42), the publication of step E, and the discarding of a result whose pass is gone. The fixing of re-seed at the completion of step C and the order of the alarms are the model's: logs 32 and 19; so is that a scan from before the wrap of the scan number is appended to the emptied queue like any other (log 39), and that a summary stands where its pass publishes it when a newer scan has published first (log 37). -/
def Obligations.PassChunks : Prop :=
  ∀ (k : Chunk) (s : State), s.cve.job = some (.chunk k) →
    let idle : State := { s with cve := { s.cve with job := none } }
    let handed (x : State) : Completed := .next (engineTests (motionTests (passTests x)))
    ((∀ p, s.pfb.pass = some p → p.scan ≠ k.scan) → exec .passChunkComplete s = handed idle)
    ∧ ∀ p c g geo, s.pfb.pass = some p → p.scan = k.scan → contextOf s p.scan = some c →
      s.gtu.geometry = some geo → gradeAt s c.slot = some g →
      let entries := match c.accumulator with
        | some a => s.pfb.entries a
        | none => []
      let wrote (q : PassRecord) : State := { idle with pfb := { idle.pfb with pass := some q } }
      let ended : State :=
        { idle with
          pfb :=
            { idle.pfb with
              pass := none, contexts := s.pfb.contexts.filter fun x => x.number != c.number }
          grs := { s.grs with pins := s.grs.pins.filter fun x => x.scan != c.number } }
      let more : Bool := decide (p.nextZone + 16 < geo.Z)
      (p.step = .assembly → ∃ q, exec .passChunkComplete s = handed (wrote q)
        ∧ q.zones = p.zones ++
            ((List.range (min 16 (geo.Z - p.nextZone))).map fun i =>
              let slots := (entries.drop ((p.nextZone + i) * geo.S)).take geo.S
              { readings := .build (assembleChannel g slots), onSheet := false })
        ∧ q.scan = p.scan ∧ q.edges = p.edges ∧ q.reseeded = p.reseeded
        ∧ q.step = (if more then .assembly else .edges)
        ∧ q.nextZone = (if more then p.nextZone + 16 else 0) ∧ q.offered = true
        ∧ ∀ ch, q.sums.get ch =
            { p.sums.get ch with
              clampedSlots :=
                (p.sums.get ch).clampedSlots
                  + ((entries.drop (p.nextZone * geo.S)).take
                      (min 16 (geo.Z - p.nextZone) * geo.S)).countP fun e =>
                    match e.readings.get ch with
                    | .valid _ clamped => clamped
                    | _ => false })
      ∧ (p.step = .edges →
        let q := stepB g p
        let minimum := min g.minSheetZones geo.Z
        (c.kind = .probe →
          exec .passChunkComplete s = handed (probeReport c.number q.edges.width minimum ended))
        ∧ (c.kind ≠ .probe → q.edges.width < minimum →
          exec .passChunkComplete s = handed (edgeCollapse c.number q.edges.width ended))
        ∧ (c.kind ≠ .probe → minimum ≤ q.edges.width →
          exec .passChunkComplete s = handed (wrote q)))
      ∧ (p.step = .statistics → ∃ q, exec .passChunkComplete s = handed (wrote q)
        ∧ q.scan = p.scan ∧ q.zones = p.zones ∧ q.edges = p.edges
        ∧ (∀ ch, q.sums.get ch =
            (((List.range (min 16 (geo.Z - p.nextZone))).map (p.nextZone + ·)).filterMap fun z =>
              match p.zones[z]?, p.edges.span with
              | some e, some (first, last) =>
                match e.readings.get ch with
                | .valid v =>
                  if e.onSheet = true ∧ first + g.edgeGuard ≤ z ∧ z + g.edgeGuard ≤ last then some (v, z)
                  else none
                | _ => none
              | _, _ => none).foldl (fun r x => addValue x.1 x.2 r) (p.sums.get ch))
        ∧ q.step = (if more then .statistics else .filter)
        ∧ q.nextZone = (if more then p.nextZone + 16 else 0) ∧ q.offered = true
        ∧ (more = true → q.reseeded = p.reseeded)
        ∧ (more = false → (q.reseeded = true ↔ ∃ r, s.pfb.reseed = some r ∧ r.mark.order ≤ c.order)))
      ∧ (p.step = .filter → ∃ q working,
        exec .passChunkComplete s =
            handed { wrote q with pfb := { (wrote q).pfb with working := working } }
          ∧ q.scan = p.scan ∧ q.reseeded = p.reseeded ∧ q.zones = p.zones ∧ q.edges = p.edges
          ∧ q.sums = p.sums
          ∧ q.step = (if more then .filter else .finish)
          ∧ q.nextZone = (if more then p.nextZone + 16 else 0) ∧ q.offered = true
          ∧ working.length = s.pfb.working.length
          ∧ ∀ (z : Nat) (old : ProfileZone), s.pfb.working[z]? = some old →
            working[z]? =
              some
                (match decide (p.nextZone ≤ z ∧ z < p.nextZone + 16 ∧ z < geo.Z), p.zones[z]? with
                | true, some e =>
                  { cells := .build (fun ch =>
                      filterCell p g.filterShift z (e.readings.get ch) (old.cells.get ch))
                    onSheet := e.onSheet }
                | _, _ => old))
      ∧ (p.step = .finish → ∃ x, exec .passChunkComplete s = handed x
        ∧ x.pfb.pass = none
        ∧ x.pfb.contexts = s.pfb.contexts.filter (fun y => y.number != c.number)
        ∧ x.grs = { s.grs with pins := s.grs.pins.filter fun y => y.scan != c.number }
        ∧ x.pfb.published = s.pfb.working ∧ x.pfb.working = s.pfb.working
        ∧ x.pfb.publishedScan = c.number ∧ x.pfb.publishedEdges = p.edges.span
        ∧ (s.pfb.summaries.length ≤ 4 → x.pfb.summaries =
            (if s.pfb.summaries.length = 4 then s.pfb.summaries.tail else s.pfb.summaries) ++
              [buildSummary s c g entries p])
        ∧ x.pfb =
            { s.pfb with
              pass := none, contexts := s.pfb.contexts.filter fun y => y.number != c.number
              published := s.pfb.working, publishedScan := c.number, publishedEdges := p.edges.span
              summaries := x.pfb.summaries, reseed := x.pfb.reseed }
        ∧ x.plx.scanToggle = !s.plx.scanToggle
        ∧ x.plx.alarms =
            (scanConditions g p).foldl
              (fun l y => match y.2 with
                | some detail => raiseIn y.1 detail c.number l
                | none => endIn y.1 l) s.plx.alarms
        ∧ (p.reseeded = false → x.pfb.reseed = s.pfb.reseed)
        ∧ (∀ r, p.reseeded = true → s.pfb.reseed = some r →
            x.pfb.reseed =
              (match r.later with
              | some m => if c.order < m.order then some { mark := m, later := none } else none
              | none => none))
        ∧ x.sdu.countdown = s.sdu.countdown.map (· - 1)
        ∧ (x.sdu.wanted = true ↔ s.sdu.wanted = true ∨ s.sdu.countdown = some 1)
        ∧ x.plx =
            { s.plx with
              alarms := x.plx.alarms, scanToggle := !s.plx.scanToggle
              alarmNew := s.plx.alarmNew || (scanConditions g p).any fun y => y.2.isSome }
        ∧ x.sdu =
            { s.sdu with countdown := s.sdu.countdown.map (· - 1), wanted := x.sdu.wanted }
        ∧ x.cve = { s.cve with job := none } ∧ x.pending = s.pending
        ∧ x.trc = s.trc ∧ x.gtu = s.gtu ∧ x.bkm = s.bkm ∧ x.slp = s.slp)

/-- A declaration fills the cause record only if it is empty, makes the state BROKEN, drops the watch, abandons every scan not published with its records and its pin, gives a park order, which in SCANNING closes the open scan, and raises SHEET_BREAK. Whether the park order acts in TRANSIT with then-action SCAN or POINT, where the table of R25 and the last words of R145 step 5 disagree, is left open as a free value of Config, and the statement holds for either: log 41. -/
def Obligations.BreakDeclaration : Prop :=
  ∀ (d : Declared) (s : State),
    let t := declareBreak d s
    t.bkm.state = .broken ∧ t.bkm.watch = .off ∧ t.bkm.runCount = 0
      ∧ (∀ c, s.bkm.cause = some c → t.bkm.cause = some c)
      ∧ (s.bkm.cause = none →
        t.bkm.cause =
          some
            { kind := d.kind, origin := d.origin, scan := d.scan, position := s.trc.position
              zone := d.zone, detail := d.detail
              gradeCode := (activeGrade s).map GradeRecord.code })
      ∧ t.bkm.failedProbes = (if s.bkm.state = .clear then 0 else s.bkm.failedProbes)
      ∧ t.bkm.lastProbe = s.bkm.lastProbe ∧ t.bkm.recoveryDelay = s.bkm.recoveryDelay
      ∧ t.bkm.levelCondition = s.bkm.levelCondition
      ∧ t.pfb.contexts = [] ∧ t.pfb.pass = none ∧ t.pfb.working = s.pfb.published
      ∧ t.pfb.published = s.pfb.published ∧ t.pfb.publishedScan = s.pfb.publishedScan
      ∧ t.pfb.publishedEdges = s.pfb.publishedEdges ∧ t.pfb.summaries = s.pfb.summaries
      ∧ t.pfb.trend = s.pfb.trend ∧ t.pfb.scanNumber = s.pfb.scanNumber
      ∧ t.pfb =
          { s.pfb with
            contexts := [], pass := none, working := s.pfb.published
            reseed := (setReseed (nextMark s) s).pfb.reseed }
      ∧ (let scanning := isScanning s.trc.state
        let gone :=
          s.pfb.contexts.map ScanContext.number
            ++ if scanning then (s.gtu.openScan.map OpenScan.number).toList else []
        let kept (r : SampleRecord) : Bool := r.kind == .point || !gone.contains r.number
        let queue := s.gtu.queue.filter kept
        let held := s.gtu.held.filter kept
        t.grs = { s.grs with pins := s.grs.pins.filter fun p => !gone.contains p.scan }
          ∧ t.gtu =
              { s.gtu with
                comparator := if scanning then none else s.gtu.comparator
                openScan := if scanning then none else s.gtu.openScan
                pointTimer := if isPoint s.trc.state then none else s.gtu.pointTimer
                queue := if queue.length < 8 then queue ++ held.toList else queue
                held := if queue.length < 8 then none else held })
      ∧ (∀ r ∈ t.gtu.queue ++ t.gtu.held.toList, r.kind ≠ .point →
          ∀ c ∈ s.pfb.contexts, r.number ≠ c.number)
      ∧ t.trc =
          (match s.trc.state with
          | .scanning _ _ _ _ | .point _ _ => (moveTo (.transit .park .noAction) s).trc
          | .transit _ .scan | .transit _ .point =>
            if Config.declarationTurnsTransit then (moveTo (.transit .park .noAction) s).trc else s.trc
          | .dwell _ => (moveTo (.dwell false) s).trc
          | _ => s.trc)
      ∧ t.plx =
          (raiseFor .sheetBreak
            (match d.kind with
            | .gaugeLoss => 1
            | .edgeCollapse => 2
            | .input => 3) s.pfb.scanNumber s).plx
      ∧ t.sdu = s.sdu ∧ t.cve = s.cve ∧ t.slp = s.slp ∧ t.pending = s.pending

/-- The zone containing a position of the window, and that of the head. Which causes declare, the counting of the gauge-loss watch, and what a probe report does: in PROBING a sheet ends the break and none sends it back to WAITING with a park order. A gauge loss at a run of at least the break run is the model's (log 14), and so is its detail, the run counted (log 40). Which results the watch counts. That POINT results count on after CLEAR_PROFILES, with the watch shown as none, is read from R141: log 38. -/
def Obligations.BreakCauses : Prop :=
  (∀ (g : Geometry) (p : Int), g.inRange = true →
      let N := g.Z * g.S
      let b (j : Nat) : Nat := g.W0 + j * (g.W1 - g.W0) / N
      (∀ j, j < N → (b j : Int) ≤ p → p < b (j + 1) → g.zoneAt p = j / g.S)
        ∧ (p = g.W1 → g.zoneAt p = (N - 1) / g.S)) ∧
  (∀ s : State,
      headZone s =
        match s.gtu.geometry with
        | none => none
        | some g =>
          if (g.W0 : Int) ≤ s.trc.position ∧ s.trc.position ≤ g.W1 then
            some (g.zoneAt s.trc.position)
          else none) ∧
  ∀ s : State,
    (∀ line, s.bkm.state ≠ .broken →
      inputCause line s =
        declareBreak
          { kind := .input, origin := .noOrigin, scan := s.pfb.scanNumber, zone := headZone s
            detail := line } s)
    ∧ (∀ line, s.bkm.state = .broken → inputCause line s = s)
    ∧ (∀ scan width, s.bkm.state = .clear →
      edgeCollapse scan width s =
        declareBreak
          { kind := .edgeCollapse, origin := .scan, scan := scan, zone := none, detail := width } s)
    ∧ (∀ scan width, s.bkm.state ≠ .clear → edgeCollapse scan width s = s)
    ∧ (∀ g bw origin scan zone,
      let off : Prop := (∃ l ∈ s.plx.inputs, l.setting.role = .machineRun)
        ∧ ∀ l ∈ s.plx.inputs, l.setting.role = .machineRun → lineActive l = false
      let counted (n : Nat) : State := { s with bkm := { s.bkm with runCount := n } }
      (off → countResult g bw origin scan zone s = counted 0)
      ∧ (¬ off → (∀ v clamped, bw ≠ .valid v clamped) → countResult g bw origin scan zone s = s)
      ∧ (∀ v clamped, ¬ off → bw = .valid v clamped → g.breakThreshold ≤ v →
        countResult g bw origin scan zone s = counted 0)
      ∧ (∀ v clamped, ¬ off → bw = .valid v clamped → v < g.breakThreshold →
        countResult g bw origin scan zone s =
          if s.bkm.runCount + 1 < g.breakRun then counted (s.bkm.runCount + 1)
          else
            declareBreak
              { kind := .gaugeLoss, origin := origin, scan := scan, zone := zone
                detail := s.bkm.runCount + 1 }
              (counted (s.bkm.runCount + 1))))
    ∧ (∀ (j : SampleJob) (bw : Reading),
      let r := j.record
      (r.kind = .probe → watchResult j bw s = s)
      ∧ (∀ slot c g geo, r.kind = .scan → r.slot = some slot → contextOf s r.number = some c →
        gradeAt s c.slot = some g → s.gtu.geometry = some geo →
        let counted : Prop :=
          s.bkm.state = .clear
            ∧ ∃ first last, s.bkm.watch = .scan r.number (some (first, last))
              ∧ first * geo.S ≤ slot ∧ slot ≤ last * geo.S + (geo.S - 1)
        (counted → watchResult j bw s = countResult g bw .scan r.number (some (slot / geo.S)) s)
          ∧ (¬ counted → watchResult j bw s = s))
      ∧ (∀ position period g geo, r.kind = .point → j.stale = false →
        s.trc.state = .point position period → s.bkm.state = .clear → activeGrade s = some g →
        s.gtu.geometry = some geo →
        watchResult j bw s = countResult g bw .point r.number (some (geo.zoneAt position)) s)
      ∧ (r.kind = .point → j.stale = true ∨ isPoint s.trc.state = false ∨ s.bkm.state ≠ .clear →
        watchResult j bw s = s))
    ∧ (∀ scan width minimum,
      let report (found : Bool) : Option ProbeResult :=
        some { scan := scan, width := width, minimum := minimum, sheetFound := found }
      (s.bkm.state ≠ .probing → probeReport scan width minimum s = s)
      ∧ (s.bkm.state = .probing → minimum ≤ width →
        probeReport scan width minimum s =
          endAlarm .sheetBreak { s with bkm := { s.bkm with state := .clear, lastProbe := report true } })
      ∧ (s.bkm.state = .probing → width < minimum →
        probeReport scan width minimum s =
          parkOrder
            { s with
              bkm :=
                { s.bkm with
                  state :=
                    .waiting
                      (if s.trc.state = .parked then .running (s.bkm.recoveryDelay * 1000000)
                      else .notStarted)
                  lastProbe := report false
                  failedProbes := min 255 (s.bkm.failedProbes + 1) } }))

/-- The completion of an evaluation: the candidates, each channel's judgement, its reference, reject counter and SUSPECT, and the end of the dwell; an evaluation of an aborted dwell is discarded. A rejected channel raises STD_REJECTED, and STD_PERSISTENT from the third rejection on; STD_PERSISTENT ends when no channel is SUSPECT. -/
def Obligations.StandardizeEvaluation : Prop :=
  ∀ (e : Machine.Evaluation) (s : State), s.cve.job = some (.evaluation e) →
    let idle : State := { s with cve := { s.cve with job := none } }
    let quotient (a b : Nat) : Nat := (2 * a + b) / (2 * b)
    (e.stale = true ∨ s.sdu.dwell = none →
      exec .evaluationComplete s = .next (engineTests idle))
    ∧ ∀ d, e.stale = false → s.sdu.dwell = some d →
      let b := min 16777215 (quotient (e.dark.bw * 1000000) e.dark.time)
      let r0 := min 16777215 (quotient (e.air.bw * 1000000) e.air.time) - b
      let q0 : Option Nat :=
        if e.air.mr = 0 then none else some (min 65535 (quotient (e.air.ma * 16384) e.air.mr))
      let f0 := min 16777215 (quotient (e.air.cl * 1000000) e.air.time)
      let drift (c ref : Nat) : Option Nat :=
        if ref = 0 then none
        else some (min 65535 (quotient (((c : Int) - ref).natAbs * 1000) ref))
      let verdict (ref limit c : Nat) : StdResult :=
        match drift c ref with
        | none => if c = 0 then .rejected .zero else .first
        | some x => if limit < x then .rejected .drift else .adopted
      let old := s.sdu
      let bw : StdResult :=
        if d.darkShutter then .rejected .darkShutter
        else if d.satBw then .rejected .saturated
        else verdict old.refs.r0 old.settings.bwLimit r0
      let moi : StdResult :=
        if d.satMa || d.satMr then .rejected .saturated
        else match q0 with
          | none => .rejected .noReferenceBand
          | some c => verdict old.refs.q0 old.settings.moiLimit c
      let cal : StdResult :=
        if d.satCl then .rejected .saturated else verdict old.refs.f0 old.settings.calLimit f0
      let good (r : StdResult) : Bool := r == .adopted || r == .first
      let judged (c : StdChannel) (r : StdResult) (candidate : Option Nat) (ref : Nat) : StdChannel :=
        let n := if good r then 0 else min 255 (c.rejects + 1)
        { result := r, candidate := candidate, drift := candidate.bind (drift · ref), rejects := n
          suspect := !good r && (c.suspect || decide (3 ≤ n)) }
      let alarmed (channel : Nat) (c : StdChannel) (u : State) : State :=
        if good c.result then u
        else
          let raised := raiseFor .stdRejected channel s.pfb.scanNumber u
          if 3 ≤ c.rejects then raiseFor .stdPersistent channel s.pfb.scanNumber raised else raised
      ∃ x, exec .evaluationComplete s = .next (engineTests (motionTests (shutterFollow x)))
        ∧ x.sdu =
          { old with
            refs :=
              { b := if good bw then b else old.refs.b, r0 := if good bw then r0 else old.refs.r0
                q0 := if good moi then q0.getD old.refs.q0 else old.refs.q0
                f0 := if good cal then f0 else old.refs.f0 }
            bw := judged old.bw bw (some r0) old.refs.r0
            moi := judged old.moi moi q0 old.refs.q0
            cal := judged old.cal cal (some f0) old.refs.f0
            wanted := false, lastScan := s.pfb.scanNumber, stdDone := true, dwell := none
            countdown :=
              if old.settings.interval = 0 then none else some old.settings.interval }
        ∧ (∀ resume, s.trc.state = .dwell resume →
          x.trc.state = if resume then .scanning .fwd .turn true false else .parked)
        ∧ (good bw = true → good moi = true → good cal = true →
          x.plx = { s.plx with alarms := endIn .stdPersistent s.plx.alarms })
        ∧ (let raised := alarmed 2 x.sdu.cal (alarmed 1 x.sdu.moi (alarmed 0 x.sdu.bw s))
          x.plx =
            if x.sdu.bw.suspect || x.sdu.moi.suspect || x.sdu.cal.suspect then raised.plx
            else (endAlarm .stdPersistent raised).plx)
        ∧ x.cve = idle.cve ∧ x.grs = s.grs ∧ x.pfb = s.pfb ∧ x.bkm = s.bkm ∧ x.slp = s.slp

/-- The shutter: its command follows its condition, a change restarts the supervision, the confirm is debounced, and a failure raises SHUTTER, aborting a dwell or parking the head when the command was open. The supervision after reset is the model's: log 7. -/
def Obligations.ShutterUnit : Prop :=
  ∀ s : State,
    let wanted :=
      s.plx.interlock
        && (isScanning s.trc.state || isPoint s.trc.state || (isDwell s.trc.state && dwellPhaseAir s))
    let settled : State :=
      { s with
        sdu :=
          { s.sdu with
            confirm := { raw := s.sdu.confirm.raw, level := s.sdu.confirm.raw, timer := none } } }
    (wanted = s.sdu.shutterOpen → shutterFollow s = s)
    ∧ (wanted ≠ s.sdu.shutterOpen → s.sdu.confirm.level ≠ wanted →
      shutterFollow s =
        { s with sdu := { s.sdu with shutterOpen := wanted, supervision := .settling, window := 0 } })
    ∧ (wanted ≠ s.sdu.shutterOpen → s.sdu.confirm.level = wanted →
      shutterFollow s =
        shutterAgrees
          { s with
            sdu := { s.sdu with shutterOpen := wanted, supervision := .settling, window := 0 } })
    ∧ (let t := shutterAgrees s
      t.sdu.supervision = .agreed ∧ t.plx = (endAlarm .shutter s).plx ∧ t.trc = s.trc
        ∧ ∀ d, s.sdu.dwell = some d → d.step = .opening → s.sdu.shutterOpen = true →
          t.sdu.dwell = some { d with step := .air } ∧ t.gtu.subGateTimer = some 0
            ∧ t.gtu.gateTimer = 0 ∧ t.gtu.counters = { bwc := 0, mac := 0, mrc := 0, clc := 0 })
    ∧ (let f := raiseFor .shutter (if s.sdu.shutterOpen then 1 else 0) s.pfb.scanNumber
          { s with sdu := { s.sdu with supervision := .failed } }
      shutterFails s =
        if s.sdu.shutterOpen = false then f
        else
          shutterFollow
            (match s.trc.state with
            | .dwell _ =>
              { moveTo .parked (abortDwell f) with
                trc := { (moveTo .parked (abortDwell f)).trc with dwellHold := true } }
            | .scanning _ _ _ _ | .point _ _ => parkOrder f
            | _ => f))
    ∧ (∀ active, exec (.shutterConfirmRawChange active) s =
      .next
        (if s.sdu.confirm.raw = active then s
        else
          { s with
            sdu :=
              { s.sdu with
                confirm := { raw := active, level := s.sdu.confirm.level, timer := some 0 } } }))
    ∧ (s.sdu.confirm.timer.isSome →
      let marked : State :=
        if s.sdu.confirm.raw then
          { settled with
            sdu :=
              { settled.sdu with
                dwell := s.sdu.dwell.map fun d =>
                  if d.step = .dark then { d with darkShutter := true } else d } }
        else { settled with gtu := { s.gtu with unconfirmed := true } }
      exec .shutterConfirmSettled s =
        .next
          (match decide (s.sdu.confirm.raw = s.sdu.shutterOpen), s.sdu.supervision with
          | true, .settling | true, .failed => shutterAgrees marked
          | false, .agreed => motionTests (shutterFails marked)
          | true, .agreed | false, .settling | false, .failed => marked))
    ∧ (s.sdu.supervision = .settling → s.sdu.confirm.level ≠ s.sdu.shutterOpen →
      exec .shutterWindowExpiry s = .next (motionTests (shutterFails s)))

/-- An input line: its debounced state is its debounced level read by its polarity, UNSETTLED counting as not active; a raw change restarts its stability timer; a debounced change sets its change latch and acts by role and mode, an establishment is no edge; the interlock and the level condition act on their changes. The restart of the debounce at reset and on a shorter setting is the model's: logs 6 and 22. -/
def Obligations.InputLines : Prop :=
  ∀ (i : Fin 8) (l : InputLine) (s : State), s.plx.inputs[i.val]? = some l →
    lineState l = l.high.map (fun high => high == (l.setting.polarity == .activeHigh))
    ∧ (lineActive l = true ↔ l.high = some (l.setting.polarity == .activeHigh)) ∧
    let put (x : InputLine) : State :=
      { s with plx := { s.plx with inputs := s.plx.inputs.set i.val x } }
    let changed := put { l with high := some l.raw, timer := 0, change := true }
    let established := put { l with high := some l.raw, timer := 0 }
    let leading := (l.raw == (l.setting.polarity == .activeHigh))
    (∀ high, exec (.inputRawChange i high) s =
      .next (if l.raw = high then s else put { l with raw := high, timer := 0 }))
    ∧ (l.high = some l.raw → exec (.inputDebounceExpiry i) s = .next s)
    ∧ (l.high = none →
      exec (.inputDebounceExpiry i) s =
        .next
          (match l.setting.role, l.setting.mode with
          | .interlock, _ => formInterlock established
          | .break, .level => formLevelCondition established
          | _, _ => established))
    ∧ (l.high = some (!l.raw) →
      exec (.inputDebounceExpiry i) s =
        .next
          (match l.setting.role, l.setting.mode, leading with
          | .interlock, _, _ => formInterlock changed
          | .break, .level, _ => formLevelCondition changed
          | .break, .rising, true | .break, .falling, false | .break, .both, _ =>
            motionTests (inputCause i.val changed)
          | .stdRequest, .level, true | .stdRequest, .rising, true | .stdRequest, .falling, false
          | .stdRequest, .both, _ =>
            motionTests { changed with sdu := { changed.sdu with wanted := true } }
          | _, _, _ => changed))
    ∧ (let satisfied : Bool := s.plx.inputs.all fun x => x.setting.role != .interlock || lineActive x
      let formed : State := { s with plx := { s.plx with interlock := satisfied } }
      (s.plx.interlock = satisfied → formInterlock s = formed)
      ∧ (s.plx.interlock = true → satisfied = false →
        formInterlock s =
          motionTests
            (haltOrder
              (match s.trc.state with
              | .stopped | .parked | .faulted _ => formed
              | _ =>
                raiseFor .interlock
                  (s.plx.inputs.findIdx fun x => x.setting.role == .interlock && !lineActive x)
                  s.pfb.scanNumber formed)))
      ∧ (s.plx.interlock = false → satisfied = true →
        formInterlock s = motionTests (endAlarm .interlock formed)))
    ∧ (let isLevel (x : InputLine) : Bool :=
        x.setting.role == .break && x.setting.mode == .level && lineActive x
      let formed : State := { s with bkm := { s.bkm with levelCondition := s.plx.inputs.any isLevel } }
      (s.bkm.levelCondition = s.plx.inputs.any isLevel → formLevelCondition s = formed)
      ∧ (s.bkm.levelCondition = false → s.plx.inputs.any isLevel = true →
        formLevelCondition s = motionTests (inputCause (s.plx.inputs.findIdx isLevel) formed))
      ∧ (s.bkm.levelCondition = true → s.plx.inputs.any isLevel = false →
        formLevelCondition s = motionTests formed))

/-- The invariants of the model hold right after a power-on reset. The raw levels and the straps of this state are the model's: logs 4 and 5. -/
def Obligations.InvariantsAtReset : Prop :=
  QueuesBounded State.reset ∧ TraverseSound State.reset ∧ ShutterFollows State.reset
    ∧ AlarmsSound State.reset ∧ RecordsSound State.reset ∧ BreakKeepsProfile State.reset

/-- The sample queue, the summary queue and the trend ring stay within 8, 4 and 64, and the holding record is occupied only while the sample queue is full. -/
def Obligations.QueuesStayBounded : Prop :=
  ∀ s t : State, QueuesBounded s → step s = .next t → QueuesBounded t

/-- Homed stays true in TRANSIT, PARKED, SCANNING, DWELL and POINT, the drive stays at zero in the resting states and during an off-time, the duty stays in range, and the comparator stays idle outside SCANNING. -/
def Obligations.TraverseStaysSound : Prop :=
  ∀ s t : State, TraverseSound s → step s = .next t → TraverseSound t

/-- The shutter stays commanded open exactly while the traverse is SCANNING, POINT or in the AIR phase of DWELL and the interlock is satisfied. -/
def Obligations.ShutterStaysFollowing : Prop :=
  ∀ s t : State, ShutterFollows s → step s = .next t → ShutterFollows t

/-- The alarm list keeps at most one entry per kind, and no entry is INACTIVE and acknowledged. -/
def Obligations.AlarmsStaySound : Prop :=
  ∀ s t : State, AlarmsSound s → step s = .next t → AlarmsSound t

/-- Every record in force stays within its ranges, the active and the staged slot hold records and differ, and the interlock stays the one the lines form. -/
def Obligations.RecordsStaySound : Prop :=
  ∀ s t : State, RecordsSound s → step s = .next t → RecordsSound t

/-- While the break state is not CLEAR no NORMAL scan is held, and outside steps D and E of a pass the working set equals the published set. -/
def Obligations.BreakKeepsProfiles : Prop :=
  ∀ s t : State, BreakKeepsProfile s → step s = .next t → BreakKeepsProfile t

/-- What only a power-on reset takes away: a nonzero channel reference stays nonzero, the cause of a break in progress is kept, and the record of a slot in use is not changed; a reply stays as it was built until it ends. -/
def Obligations.OnlyPowerOnLoses : Prop :=
  ∀ (c : Instr) (s t : State), RecordsSound s → (∀ p, c ≠ .powerOnReset p) → exec c s = .next t →
    (s.sdu.refs.r0 ≠ 0 → t.sdu.refs.r0 ≠ 0) ∧ (s.sdu.refs.q0 ≠ 0 → t.sdu.refs.q0 ≠ 0)
      ∧ (s.sdu.refs.f0 ≠ 0 → t.sdu.refs.f0 ≠ 0)
      ∧ (∀ cause, s.bkm.state ≠ .clear → s.bkm.cause = some cause → t.bkm.cause = some cause)
      ∧ (∀ slot, slotInUse s slot = true → gradeIn t slot = gradeIn s slot)
      ∧ (∀ reply, s.slp.port = .replying reply → (∀ p, c ≠ .replyEnd p) →
          t.slp.port = .replying reply)

/-- A grade record within its ranges, a geometry record and a drive record written in their layouts are read back whole. -/
def Obligations.RecordsReadBack : Prop :=
  (∀ slot g, slot ≤ 255 → GradeRecord.inRange g = true →
      walkGrade (gradeBytes slot g) = some { slot := slot, parts := partsByte g, record := g })
    ∧ (∀ g : Geometry, g.inRange = true →
      (geometryBytes g).length = 21 ∧ readGeometry (geometryBytes g) = g)
    ∧ (∀ d : DriveRecord, d.inRange = true →
      (driveBytes d).length = 8 ∧ readDrive (driveBytes d) = d)
    ∧ ∀ r : StdSettings, r.inRange = true →
      (stdSettingsBytes r).length = 8 ∧ readStdSettings (stdSettingsBytes r) = r
end

