-- ==== Sys2Proof/Laws/State.lean ====
section
/-! SUPPORT. Each field of State after each update of one block, true by rfl. -/

namespace Sys2Proof.Machine

variable (s : State)

@[simp] theorem State.modTrc_trc (f : Traverse → Traverse) : (s.modTrc f).trc = f s.trc := rfl
@[simp] theorem State.modTrc_gtu (f : Traverse → Traverse) : (s.modTrc f).gtu = s.gtu := rfl
@[simp] theorem State.modTrc_cve (f : Traverse → Traverse) : (s.modTrc f).cve = s.cve := rfl
@[simp] theorem State.modTrc_grs (f : Traverse → Traverse) : (s.modTrc f).grs = s.grs := rfl
@[simp] theorem State.modTrc_pfb (f : Traverse → Traverse) : (s.modTrc f).pfb = s.pfb := rfl
@[simp] theorem State.modTrc_sdu (f : Traverse → Traverse) : (s.modTrc f).sdu = s.sdu := rfl
@[simp] theorem State.modTrc_bkm (f : Traverse → Traverse) : (s.modTrc f).bkm = s.bkm := rfl
@[simp] theorem State.modTrc_plx (f : Traverse → Traverse) : (s.modTrc f).plx = s.plx := rfl
@[simp] theorem State.modTrc_slp (f : Traverse → Traverse) : (s.modTrc f).slp = s.slp := rfl
@[simp] theorem State.modTrc_pending (f : Traverse → Traverse) : (s.modTrc f).pending = s.pending := rfl

@[simp] theorem State.modGtu_trc (f : GateUnit → GateUnit) : (s.modGtu f).trc = s.trc := rfl
@[simp] theorem State.modGtu_gtu (f : GateUnit → GateUnit) : (s.modGtu f).gtu = f s.gtu := rfl
@[simp] theorem State.modGtu_cve (f : GateUnit → GateUnit) : (s.modGtu f).cve = s.cve := rfl
@[simp] theorem State.modGtu_grs (f : GateUnit → GateUnit) : (s.modGtu f).grs = s.grs := rfl
@[simp] theorem State.modGtu_pfb (f : GateUnit → GateUnit) : (s.modGtu f).pfb = s.pfb := rfl
@[simp] theorem State.modGtu_sdu (f : GateUnit → GateUnit) : (s.modGtu f).sdu = s.sdu := rfl
@[simp] theorem State.modGtu_bkm (f : GateUnit → GateUnit) : (s.modGtu f).bkm = s.bkm := rfl
@[simp] theorem State.modGtu_plx (f : GateUnit → GateUnit) : (s.modGtu f).plx = s.plx := rfl
@[simp] theorem State.modGtu_slp (f : GateUnit → GateUnit) : (s.modGtu f).slp = s.slp := rfl
@[simp] theorem State.modGtu_pending (f : GateUnit → GateUnit) : (s.modGtu f).pending = s.pending := rfl

@[simp] theorem State.modCve_trc (f : Engine → Engine) : (s.modCve f).trc = s.trc := rfl
@[simp] theorem State.modCve_gtu (f : Engine → Engine) : (s.modCve f).gtu = s.gtu := rfl
@[simp] theorem State.modCve_cve (f : Engine → Engine) : (s.modCve f).cve = f s.cve := rfl
@[simp] theorem State.modCve_grs (f : Engine → Engine) : (s.modCve f).grs = s.grs := rfl
@[simp] theorem State.modCve_pfb (f : Engine → Engine) : (s.modCve f).pfb = s.pfb := rfl
@[simp] theorem State.modCve_sdu (f : Engine → Engine) : (s.modCve f).sdu = s.sdu := rfl
@[simp] theorem State.modCve_bkm (f : Engine → Engine) : (s.modCve f).bkm = s.bkm := rfl
@[simp] theorem State.modCve_plx (f : Engine → Engine) : (s.modCve f).plx = s.plx := rfl
@[simp] theorem State.modCve_slp (f : Engine → Engine) : (s.modCve f).slp = s.slp := rfl
@[simp] theorem State.modCve_pending (f : Engine → Engine) : (s.modCve f).pending = s.pending := rfl

@[simp] theorem State.modGrs_trc (f : GradeStore → GradeStore) : (s.modGrs f).trc = s.trc := rfl
@[simp] theorem State.modGrs_gtu (f : GradeStore → GradeStore) : (s.modGrs f).gtu = s.gtu := rfl
@[simp] theorem State.modGrs_cve (f : GradeStore → GradeStore) : (s.modGrs f).cve = s.cve := rfl
@[simp] theorem State.modGrs_grs (f : GradeStore → GradeStore) : (s.modGrs f).grs = f s.grs := rfl
@[simp] theorem State.modGrs_pfb (f : GradeStore → GradeStore) : (s.modGrs f).pfb = s.pfb := rfl
@[simp] theorem State.modGrs_sdu (f : GradeStore → GradeStore) : (s.modGrs f).sdu = s.sdu := rfl
@[simp] theorem State.modGrs_bkm (f : GradeStore → GradeStore) : (s.modGrs f).bkm = s.bkm := rfl
@[simp] theorem State.modGrs_plx (f : GradeStore → GradeStore) : (s.modGrs f).plx = s.plx := rfl
@[simp] theorem State.modGrs_slp (f : GradeStore → GradeStore) : (s.modGrs f).slp = s.slp := rfl
@[simp] theorem State.modGrs_pending (f : GradeStore → GradeStore) : (s.modGrs f).pending = s.pending := rfl

@[simp] theorem State.modPfb_trc (f : ProfileBuilder → ProfileBuilder) : (s.modPfb f).trc = s.trc := rfl
@[simp] theorem State.modPfb_gtu (f : ProfileBuilder → ProfileBuilder) : (s.modPfb f).gtu = s.gtu := rfl
@[simp] theorem State.modPfb_cve (f : ProfileBuilder → ProfileBuilder) : (s.modPfb f).cve = s.cve := rfl
@[simp] theorem State.modPfb_grs (f : ProfileBuilder → ProfileBuilder) : (s.modPfb f).grs = s.grs := rfl
@[simp] theorem State.modPfb_pfb (f : ProfileBuilder → ProfileBuilder) : (s.modPfb f).pfb = f s.pfb := rfl
@[simp] theorem State.modPfb_sdu (f : ProfileBuilder → ProfileBuilder) : (s.modPfb f).sdu = s.sdu := rfl
@[simp] theorem State.modPfb_bkm (f : ProfileBuilder → ProfileBuilder) : (s.modPfb f).bkm = s.bkm := rfl
@[simp] theorem State.modPfb_plx (f : ProfileBuilder → ProfileBuilder) : (s.modPfb f).plx = s.plx := rfl
@[simp] theorem State.modPfb_slp (f : ProfileBuilder → ProfileBuilder) : (s.modPfb f).slp = s.slp := rfl
@[simp] theorem State.modPfb_pending (f : ProfileBuilder → ProfileBuilder) : (s.modPfb f).pending = s.pending := rfl

@[simp] theorem State.modSdu_trc (f : Standardize → Standardize) : (s.modSdu f).trc = s.trc := rfl
@[simp] theorem State.modSdu_gtu (f : Standardize → Standardize) : (s.modSdu f).gtu = s.gtu := rfl
@[simp] theorem State.modSdu_cve (f : Standardize → Standardize) : (s.modSdu f).cve = s.cve := rfl
@[simp] theorem State.modSdu_grs (f : Standardize → Standardize) : (s.modSdu f).grs = s.grs := rfl
@[simp] theorem State.modSdu_pfb (f : Standardize → Standardize) : (s.modSdu f).pfb = s.pfb := rfl
@[simp] theorem State.modSdu_sdu (f : Standardize → Standardize) : (s.modSdu f).sdu = f s.sdu := rfl
@[simp] theorem State.modSdu_bkm (f : Standardize → Standardize) : (s.modSdu f).bkm = s.bkm := rfl
@[simp] theorem State.modSdu_plx (f : Standardize → Standardize) : (s.modSdu f).plx = s.plx := rfl
@[simp] theorem State.modSdu_slp (f : Standardize → Standardize) : (s.modSdu f).slp = s.slp := rfl
@[simp] theorem State.modSdu_pending (f : Standardize → Standardize) : (s.modSdu f).pending = s.pending := rfl

@[simp] theorem State.modBkm_trc (f : BreakMonitor → BreakMonitor) : (s.modBkm f).trc = s.trc := rfl
@[simp] theorem State.modBkm_gtu (f : BreakMonitor → BreakMonitor) : (s.modBkm f).gtu = s.gtu := rfl
@[simp] theorem State.modBkm_cve (f : BreakMonitor → BreakMonitor) : (s.modBkm f).cve = s.cve := rfl
@[simp] theorem State.modBkm_grs (f : BreakMonitor → BreakMonitor) : (s.modBkm f).grs = s.grs := rfl
@[simp] theorem State.modBkm_pfb (f : BreakMonitor → BreakMonitor) : (s.modBkm f).pfb = s.pfb := rfl
@[simp] theorem State.modBkm_sdu (f : BreakMonitor → BreakMonitor) : (s.modBkm f).sdu = s.sdu := rfl
@[simp] theorem State.modBkm_bkm (f : BreakMonitor → BreakMonitor) : (s.modBkm f).bkm = f s.bkm := rfl
@[simp] theorem State.modBkm_plx (f : BreakMonitor → BreakMonitor) : (s.modBkm f).plx = s.plx := rfl
@[simp] theorem State.modBkm_slp (f : BreakMonitor → BreakMonitor) : (s.modBkm f).slp = s.slp := rfl
@[simp] theorem State.modBkm_pending (f : BreakMonitor → BreakMonitor) : (s.modBkm f).pending = s.pending := rfl

@[simp] theorem State.modPlx_trc (f : LineUnit → LineUnit) : (s.modPlx f).trc = s.trc := rfl
@[simp] theorem State.modPlx_gtu (f : LineUnit → LineUnit) : (s.modPlx f).gtu = s.gtu := rfl
@[simp] theorem State.modPlx_cve (f : LineUnit → LineUnit) : (s.modPlx f).cve = s.cve := rfl
@[simp] theorem State.modPlx_grs (f : LineUnit → LineUnit) : (s.modPlx f).grs = s.grs := rfl
@[simp] theorem State.modPlx_pfb (f : LineUnit → LineUnit) : (s.modPlx f).pfb = s.pfb := rfl
@[simp] theorem State.modPlx_sdu (f : LineUnit → LineUnit) : (s.modPlx f).sdu = s.sdu := rfl
@[simp] theorem State.modPlx_bkm (f : LineUnit → LineUnit) : (s.modPlx f).bkm = s.bkm := rfl
@[simp] theorem State.modPlx_plx (f : LineUnit → LineUnit) : (s.modPlx f).plx = f s.plx := rfl
@[simp] theorem State.modPlx_slp (f : LineUnit → LineUnit) : (s.modPlx f).slp = s.slp := rfl
@[simp] theorem State.modPlx_pending (f : LineUnit → LineUnit) : (s.modPlx f).pending = s.pending := rfl

@[simp] theorem State.modSlp_trc (f : LinkPort → LinkPort) : (s.modSlp f).trc = s.trc := rfl
@[simp] theorem State.modSlp_gtu (f : LinkPort → LinkPort) : (s.modSlp f).gtu = s.gtu := rfl
@[simp] theorem State.modSlp_cve (f : LinkPort → LinkPort) : (s.modSlp f).cve = s.cve := rfl
@[simp] theorem State.modSlp_grs (f : LinkPort → LinkPort) : (s.modSlp f).grs = s.grs := rfl
@[simp] theorem State.modSlp_pfb (f : LinkPort → LinkPort) : (s.modSlp f).pfb = s.pfb := rfl
@[simp] theorem State.modSlp_sdu (f : LinkPort → LinkPort) : (s.modSlp f).sdu = s.sdu := rfl
@[simp] theorem State.modSlp_bkm (f : LinkPort → LinkPort) : (s.modSlp f).bkm = s.bkm := rfl
@[simp] theorem State.modSlp_plx (f : LinkPort → LinkPort) : (s.modSlp f).plx = s.plx := rfl
@[simp] theorem State.modSlp_slp (f : LinkPort → LinkPort) : (s.modSlp f).slp = f s.slp := rfl
@[simp] theorem State.modSlp_pending (f : LinkPort → LinkPort) : (s.modSlp f).pending = s.pending := rfl

end Sys2Proof.Machine
end

