-- ==== Sys2Proof/Laws/Frames.lean ====
section
/-! SUPPORT. For each operation, the blocks it leaves unchanged: the sample queue, the alarms, the arbiter, the traverse and the break monitor. -/

namespace Sys2Proof.Machine

@[simp] theorem modEntry_frame (scan slot : Nat) (f : SlotEntry → SlotEntry) (s : State) :
    (modEntry scan slot f s).trc = s.trc ∧ (modEntry scan slot f s).gtu = s.gtu ∧
      (modEntry scan slot f s).cve = s.cve ∧ (modEntry scan slot f s).grs = s.grs ∧
      (modEntry scan slot f s).sdu = s.sdu ∧ (modEntry scan slot f s).bkm = s.bkm ∧
      (modEntry scan slot f s).plx = s.plx ∧ (modEntry scan slot f s).slp = s.slp ∧
      (modEntry scan slot f s).pending = s.pending := by
  unfold modEntry
  (repeat' split) <;> simp

@[simp] theorem removeScans_frame (numbers : List Nat) (s : State) :
    (removeScans numbers s).trc = s.trc ∧ (removeScans numbers s).gtu = s.gtu ∧
      (removeScans numbers s).cve = s.cve ∧ (removeScans numbers s).sdu = s.sdu ∧
      (removeScans numbers s).bkm = s.bkm ∧ (removeScans numbers s).plx = s.plx ∧
      (removeScans numbers s).slp = s.slp ∧ (removeScans numbers s).pending = s.pending := by simp [removeScans]

@[simp] theorem setReseed_frame (m : Mark) (s : State) :
    (setReseed m s).trc = s.trc ∧ (setReseed m s).gtu = s.gtu ∧ (setReseed m s).cve = s.cve ∧
      (setReseed m s).grs = s.grs ∧ (setReseed m s).sdu = s.sdu ∧ (setReseed m s).bkm = s.bkm ∧
      (setReseed m s).plx = s.plx ∧ (setReseed m s).slp = s.slp ∧ (setReseed m s).pending = s.pending := by
  unfold setReseed
  simp

@[simp] theorem raiseFor_frame (kind : AlarmKind) (detail : Int) (scan : Nat) (s : State) :
    (raiseFor kind detail scan s).trc = s.trc ∧ (raiseFor kind detail scan s).gtu = s.gtu ∧
      (raiseFor kind detail scan s).cve = s.cve ∧ (raiseFor kind detail scan s).grs = s.grs ∧
      (raiseFor kind detail scan s).pfb = s.pfb ∧ (raiseFor kind detail scan s).sdu = s.sdu ∧
      (raiseFor kind detail scan s).bkm = s.bkm ∧ (raiseFor kind detail scan s).slp = s.slp ∧
      (raiseFor kind detail scan s).pending = s.pending := by simp [raiseFor]

@[simp] theorem raiseAlarm_frame (kind : AlarmKind) (detail : Int) (s : State) :
    (raiseAlarm kind detail s).trc = s.trc ∧ (raiseAlarm kind detail s).gtu = s.gtu ∧
      (raiseAlarm kind detail s).cve = s.cve ∧ (raiseAlarm kind detail s).grs = s.grs ∧
      (raiseAlarm kind detail s).pfb = s.pfb ∧ (raiseAlarm kind detail s).sdu = s.sdu ∧
      (raiseAlarm kind detail s).bkm = s.bkm ∧ (raiseAlarm kind detail s).slp = s.slp ∧
      (raiseAlarm kind detail s).pending = s.pending := by simp [raiseAlarm]

@[simp] theorem endAlarm_frame (kind : AlarmKind) (s : State) :
    (endAlarm kind s).trc = s.trc ∧ (endAlarm kind s).gtu = s.gtu ∧ (endAlarm kind s).cve = s.cve ∧
      (endAlarm kind s).grs = s.grs ∧ (endAlarm kind s).pfb = s.pfb ∧ (endAlarm kind s).sdu = s.sdu ∧
      (endAlarm kind s).bkm = s.bkm ∧ (endAlarm kind s).slp = s.slp ∧ (endAlarm kind s).pending = s.pending := by simp [endAlarm]

@[simp] theorem capture_frame (s : State) :
    (capture s).trc = s.trc ∧ (capture s).cve = s.cve ∧ (capture s).grs = s.grs ∧ (capture s).pfb = s.pfb ∧
      (capture s).sdu = s.sdu ∧ (capture s).bkm = s.bkm ∧ (capture s).plx = s.plx ∧ (capture s).slp = s.slp ∧
      (capture s).pending = s.pending := by simp [capture]

@[simp] theorem purge_frame (numbers : List Nat) (s : State) :
    (purge numbers s).trc = s.trc ∧ (purge numbers s).cve = s.cve ∧ (purge numbers s).grs = s.grs ∧
      (purge numbers s).pfb = s.pfb ∧ (purge numbers s).sdu = s.sdu ∧ (purge numbers s).bkm = s.bkm ∧
      (purge numbers s).plx = s.plx ∧ (purge numbers s).slp = s.slp ∧ (purge numbers s).pending = s.pending := by simp [purge]

@[simp] theorem overrun_frame (displaced : SampleRecord) (s : State) :
    (overrun displaced s).trc = s.trc ∧ (overrun displaced s).gtu = s.gtu ∧
      (overrun displaced s).cve = s.cve ∧ (overrun displaced s).grs = s.grs ∧
      (overrun displaced s).sdu = s.sdu ∧ (overrun displaced s).bkm = s.bkm ∧
      (overrun displaced s).slp = s.slp ∧ (overrun displaced s).pending = s.pending := by
  unfold overrun
  dsimp only
  (repeat' split) <;> simp

@[simp] theorem place_frame (r : SampleRecord) (s : State) :
    (place r s).trc = s.trc ∧ (place r s).cve = s.cve ∧ (place r s).grs = s.grs ∧ (place r s).sdu = s.sdu ∧
      (place r s).bkm = s.bkm ∧ (place r s).slp = s.slp ∧ (place r s).pending = s.pending := by
  unfold place
  (repeat' split) <;> simp

@[simp] theorem setWanted_frame (s : State) :
    (setWanted s).trc = s.trc ∧ (setWanted s).gtu = s.gtu ∧ (setWanted s).cve = s.cve ∧
      (setWanted s).grs = s.grs ∧ (setWanted s).pfb = s.pfb ∧ (setWanted s).bkm = s.bkm ∧
      (setWanted s).plx = s.plx ∧ (setWanted s).slp = s.slp ∧ (setWanted s).pending = s.pending := by simp [setWanted]

@[simp] theorem takeSample_frame (r : SampleRecord) (rest : List SampleRecord) (s : State) :
    (takeSample r rest s).trc = s.trc ∧ (takeSample r rest s).grs = s.grs ∧
      (takeSample r rest s).pfb = s.pfb ∧ (takeSample r rest s).sdu = s.sdu ∧
      (takeSample r rest s).bkm = s.bkm ∧ (takeSample r rest s).plx = s.plx ∧
      (takeSample r rest s).slp = s.slp ∧ (takeSample r rest s).pending = s.pending := by simp [takeSample]

@[simp] theorem takeChunk_frame (p : PassRecord) (s : State) :
    (takeChunk p s).trc = s.trc ∧ (takeChunk p s).gtu = s.gtu ∧ (takeChunk p s).grs = s.grs ∧
      (takeChunk p s).sdu = s.sdu ∧ (takeChunk p s).bkm = s.bkm ∧ (takeChunk p s).plx = s.plx ∧
      (takeChunk p s).slp = s.slp ∧ (takeChunk p s).pending = s.pending := by simp [takeChunk]

@[simp] theorem takeEvaluation_frame (dark air : PhaseSums) (s : State) :
    (takeEvaluation dark air s).trc = s.trc ∧ (takeEvaluation dark air s).gtu = s.gtu ∧
      (takeEvaluation dark air s).grs = s.grs ∧ (takeEvaluation dark air s).pfb = s.pfb ∧
      (takeEvaluation dark air s).bkm = s.bkm ∧ (takeEvaluation dark air s).plx = s.plx ∧
      (takeEvaluation dark air s).slp = s.slp ∧ (takeEvaluation dark air s).pending = s.pending := by simp [takeEvaluation]

@[simp] theorem arbiterChoice_frame (s : State) :
    (arbiterChoice s).trc = s.trc ∧ (arbiterChoice s).grs = s.grs ∧ (arbiterChoice s).bkm = s.bkm ∧
      (arbiterChoice s).plx = s.plx ∧ (arbiterChoice s).slp = s.slp ∧ (arbiterChoice s).pending = s.pending := by
  unfold arbiterChoice
  (repeat' split) <;> simp

@[simp] theorem arbitrate_frame (s : State) :
    (arbitrate s).trc = s.trc ∧ (arbitrate s).grs = s.grs ∧ (arbitrate s).bkm = s.bkm ∧
      (arbitrate s).plx = s.plx ∧ (arbitrate s).slp = s.slp ∧ (arbitrate s).pending = s.pending := by
  unfold arbitrate
  (repeat' split) <;> simp

@[simp] theorem leavePoint_frame (s : State) :
    (leavePoint s).trc = s.trc ∧ (leavePoint s).cve = s.cve ∧ (leavePoint s).grs = s.grs ∧
      (leavePoint s).pfb = s.pfb ∧ (leavePoint s).sdu = s.sdu ∧ (leavePoint s).plx = s.plx ∧
      (leavePoint s).slp = s.slp ∧ (leavePoint s).pending = s.pending := by simp [leavePoint]

@[simp] theorem moveTo_frame (new : TraverseState) (s : State) :
    (moveTo new s).cve = s.cve ∧ (moveTo new s).grs = s.grs ∧ (moveTo new s).pfb = s.pfb ∧
      (moveTo new s).sdu = s.sdu ∧ (moveTo new s).plx = s.plx ∧ (moveTo new s).slp = s.slp ∧
      (moveTo new s).pending = s.pending := by
  unfold moveTo
  dsimp only
  (repeat' split) <;> simp

@[simp] theorem dropWatch_frame (numbers : List Nat) (s : State) :
    (dropWatch numbers s).trc = s.trc ∧ (dropWatch numbers s).gtu = s.gtu ∧
      (dropWatch numbers s).cve = s.cve ∧ (dropWatch numbers s).grs = s.grs ∧
      (dropWatch numbers s).pfb = s.pfb ∧ (dropWatch numbers s).sdu = s.sdu ∧
      (dropWatch numbers s).plx = s.plx ∧ (dropWatch numbers s).slp = s.slp ∧
      (dropWatch numbers s).pending = s.pending := by
  unfold dropWatch
  (repeat' split) <;> simp

@[simp] theorem abortOpenScan_frame (s : State) :
    (abortOpenScan s).trc = s.trc ∧ (abortOpenScan s).cve = s.cve ∧ (abortOpenScan s).sdu = s.sdu ∧
      (abortOpenScan s).plx = s.plx ∧ (abortOpenScan s).slp = s.slp ∧ (abortOpenScan s).pending = s.pending := by
  unfold abortOpenScan
  (repeat' split) <;> simp

@[simp] theorem staleEvaluation_frame (s : State) :
    (staleEvaluation s).trc = s.trc ∧ (staleEvaluation s).gtu = s.gtu ∧ (staleEvaluation s).grs = s.grs ∧
      (staleEvaluation s).pfb = s.pfb ∧ (staleEvaluation s).sdu = s.sdu ∧ (staleEvaluation s).bkm = s.bkm ∧
      (staleEvaluation s).plx = s.plx ∧ (staleEvaluation s).slp = s.slp ∧
      (staleEvaluation s).pending = s.pending := by
  unfold staleEvaluation
  simp

@[simp] theorem abortDwell_frame (s : State) :
    (abortDwell s).trc = s.trc ∧ (abortDwell s).grs = s.grs ∧ (abortDwell s).pfb = s.pfb ∧
      (abortDwell s).bkm = s.bkm ∧ (abortDwell s).plx = s.plx ∧ (abortDwell s).slp = s.slp ∧
      (abortDwell s).pending = s.pending := by
  unfold abortDwell
  (repeat' split) <;> simp

@[simp] theorem enterScanning_frame (s : State) :
    (enterScanning s).cve = s.cve ∧ (enterScanning s).grs = s.grs ∧ (enterScanning s).pfb = s.pfb ∧
      (enterScanning s).sdu = s.sdu ∧ (enterScanning s).plx = s.plx ∧ (enterScanning s).slp = s.slp ∧
      (enterScanning s).pending = s.pending := by simp [enterScanning]

@[simp] theorem enterDwell_frame (resumeScan : Bool) (s : State) :
    (enterDwell resumeScan s).cve = s.cve ∧ (enterDwell resumeScan s).grs = s.grs ∧
      (enterDwell resumeScan s).pfb = s.pfb ∧ (enterDwell resumeScan s).plx = s.plx ∧
      (enterDwell resumeScan s).slp = s.slp ∧ (enterDwell resumeScan s).pending = s.pending := by simp [enterDwell]

@[simp] theorem stalePointJob_frame (s : State) :
    (stalePointJob s).trc = s.trc ∧ (stalePointJob s).gtu = s.gtu ∧ (stalePointJob s).grs = s.grs ∧
      (stalePointJob s).pfb = s.pfb ∧ (stalePointJob s).sdu = s.sdu ∧ (stalePointJob s).bkm = s.bkm ∧
      (stalePointJob s).plx = s.plx ∧ (stalePointJob s).slp = s.slp ∧ (stalePointJob s).pending = s.pending := by
  unfold stalePointJob
  simp

@[simp] theorem enterPoint_frame (position periodMs : Nat) (s : State) :
    (enterPoint position periodMs s).grs = s.grs ∧ (enterPoint position periodMs s).sdu = s.sdu ∧
      (enterPoint position periodMs s).plx = s.plx ∧ (enterPoint position periodMs s).slp = s.slp ∧
      (enterPoint position periodMs s).pending = s.pending := by simp [enterPoint]

@[simp] theorem parkOrder_frame (s : State) :
    (parkOrder s).cve = s.cve ∧ (parkOrder s).sdu = s.sdu ∧ (parkOrder s).plx = s.plx ∧
      (parkOrder s).slp = s.slp ∧ (parkOrder s).pending = s.pending := by
  unfold parkOrder
  (repeat' split) <;> simp

@[simp] theorem haltOrder_frame (s : State) :
    (haltOrder s).plx = s.plx ∧ (haltOrder s).slp = s.slp ∧ (haltOrder s).pending = s.pending := by
  unfold haltOrder
  (repeat' split) <;> simp

@[simp] theorem scanOrder_frame (s : State) :
    (scanOrder s).cve = s.cve ∧ (scanOrder s).grs = s.grs ∧ (scanOrder s).pfb = s.pfb ∧
      (scanOrder s).sdu = s.sdu ∧ (scanOrder s).plx = s.plx ∧ (scanOrder s).slp = s.slp ∧
      (scanOrder s).pending = s.pending := by
  unfold scanOrder
  (repeat' split) <;> simp

@[simp] theorem enterFaulted_frame (kind : FaultKind) (s : State) :
    (enterFaulted kind s).slp = s.slp ∧ (enterFaulted kind s).pending = s.pending := by simp [enterFaulted]

@[simp] theorem startAir_frame (s : State) :
    (startAir s).trc = s.trc ∧ (startAir s).cve = s.cve ∧ (startAir s).grs = s.grs ∧
      (startAir s).pfb = s.pfb ∧ (startAir s).bkm = s.bkm ∧ (startAir s).plx = s.plx ∧
      (startAir s).slp = s.slp ∧ (startAir s).pending = s.pending := by
  unfold startAir
  (repeat' split) <;> simp

@[simp] theorem shutterAgrees_frame (s : State) :
    (shutterAgrees s).trc = s.trc ∧ (shutterAgrees s).cve = s.cve ∧ (shutterAgrees s).grs = s.grs ∧
      (shutterAgrees s).pfb = s.pfb ∧ (shutterAgrees s).bkm = s.bkm ∧ (shutterAgrees s).slp = s.slp ∧
      (shutterAgrees s).pending = s.pending := by
  unfold shutterAgrees
  dsimp only
  (repeat' split) <;> simp

@[simp] theorem shutterFollow_frame (s : State) :
    (shutterFollow s).trc = s.trc ∧ (shutterFollow s).cve = s.cve ∧ (shutterFollow s).grs = s.grs ∧
      (shutterFollow s).pfb = s.pfb ∧ (shutterFollow s).bkm = s.bkm ∧ (shutterFollow s).slp = s.slp ∧
      (shutterFollow s).pending = s.pending := by
  unfold shutterFollow
  dsimp only
  (repeat' split) <;> simp

@[simp] theorem shutterFailMove_frame (s : State) :
    (shutterFailMove s).plx = s.plx ∧ (shutterFailMove s).slp = s.slp ∧
      (shutterFailMove s).pending = s.pending := by
  unfold shutterFailMove
  (repeat' split) <;> simp

@[simp] theorem shutterFails_frame (s : State) :
    (shutterFails s).slp = s.slp ∧ (shutterFails s).pending = s.pending := by
  unfold shutterFails
  dsimp only
  (repeat' split) <;> simp

@[simp] theorem abandonAll_frame (s : State) :
    (abandonAll s).trc = s.trc ∧ (abandonAll s).cve = s.cve ∧ (abandonAll s).sdu = s.sdu ∧
      (abandonAll s).bkm = s.bkm ∧ (abandonAll s).plx = s.plx ∧ (abandonAll s).slp = s.slp ∧
      (abandonAll s).pending = s.pending := by simp [abandonAll]

@[simp] theorem fillCause_frame (d : Declared) (s : State) :
    (fillCause d s).trc = s.trc ∧ (fillCause d s).gtu = s.gtu ∧ (fillCause d s).cve = s.cve ∧
      (fillCause d s).grs = s.grs ∧ (fillCause d s).pfb = s.pfb ∧ (fillCause d s).sdu = s.sdu ∧
      (fillCause d s).plx = s.plx ∧ (fillCause d s).slp = s.slp ∧ (fillCause d s).pending = s.pending := by
  unfold fillCause
  simp

@[simp] theorem breakDown_frame (s : State) :
    (breakDown s).trc = s.trc ∧ (breakDown s).gtu = s.gtu ∧ (breakDown s).cve = s.cve ∧
      (breakDown s).grs = s.grs ∧ (breakDown s).pfb = s.pfb ∧ (breakDown s).sdu = s.sdu ∧
      (breakDown s).plx = s.plx ∧ (breakDown s).slp = s.slp ∧ (breakDown s).pending = s.pending := by
  unfold breakDown
  simp

@[simp] theorem declarationPark_frame (s : State) :
    (declarationPark s).cve = s.cve ∧ (declarationPark s).sdu = s.sdu ∧ (declarationPark s).plx = s.plx ∧
      (declarationPark s).slp = s.slp ∧ (declarationPark s).pending = s.pending := by
  unfold declarationPark
  (repeat' split) <;> simp

@[simp] theorem declareBreak_frame (d : Declared) (s : State) :
    (declareBreak d s).cve = s.cve ∧ (declareBreak d s).sdu = s.sdu ∧ (declareBreak d s).slp = s.slp ∧
      (declareBreak d s).pending = s.pending := by simp [declareBreak]

@[simp] theorem inputCause_frame (line : Nat) (s : State) :
    (inputCause line s).cve = s.cve ∧ (inputCause line s).sdu = s.sdu ∧ (inputCause line s).slp = s.slp ∧
      (inputCause line s).pending = s.pending := by
  unfold inputCause
  (repeat' split) <;> simp

@[simp] theorem edgeCollapse_frame (scan width : Nat) (s : State) :
    (edgeCollapse scan width s).cve = s.cve ∧ (edgeCollapse scan width s).sdu = s.sdu ∧
      (edgeCollapse scan width s).slp = s.slp ∧ (edgeCollapse scan width s).pending = s.pending := by
  unfold edgeCollapse
  (repeat' split) <;> simp

@[simp] theorem returnToWaiting_frame (s : State) :
    (returnToWaiting s).trc = s.trc ∧ (returnToWaiting s).gtu = s.gtu ∧ (returnToWaiting s).cve = s.cve ∧
      (returnToWaiting s).grs = s.grs ∧ (returnToWaiting s).pfb = s.pfb ∧ (returnToWaiting s).sdu = s.sdu ∧
      (returnToWaiting s).plx = s.plx ∧ (returnToWaiting s).slp = s.slp ∧
      (returnToWaiting s).pending = s.pending := by
  unfold returnToWaiting
  (repeat' split) <;> simp

@[simp] theorem probingLostTest_frame (s : State) :
    (probingLostTest s).trc = s.trc ∧ (probingLostTest s).gtu = s.gtu ∧ (probingLostTest s).cve = s.cve ∧
      (probingLostTest s).grs = s.grs ∧ (probingLostTest s).pfb = s.pfb ∧ (probingLostTest s).sdu = s.sdu ∧
      (probingLostTest s).plx = s.plx ∧ (probingLostTest s).slp = s.slp ∧
      (probingLostTest s).pending = s.pending := by
  unfold probingLostTest
  (repeat' split) <;> simp

@[simp] theorem dwellTest_frame (s : State) :
    (dwellTest s).cve = s.cve ∧ (dwellTest s).grs = s.grs ∧ (dwellTest s).pfb = s.pfb ∧
      (dwellTest s).plx = s.plx ∧ (dwellTest s).slp = s.slp ∧ (dwellTest s).pending = s.pending := by
  unfold dwellTest
  (repeat' split) <;> simp

@[simp] theorem waitingTest_frame (s : State) :
    (waitingTest s).trc = s.trc ∧ (waitingTest s).gtu = s.gtu ∧ (waitingTest s).cve = s.cve ∧
      (waitingTest s).grs = s.grs ∧ (waitingTest s).pfb = s.pfb ∧ (waitingTest s).sdu = s.sdu ∧
      (waitingTest s).plx = s.plx ∧ (waitingTest s).slp = s.slp ∧ (waitingTest s).pending = s.pending := by
  unfold waitingTest
  (repeat' split) <;> simp

@[simp] theorem delayTest_frame (s : State) :
    (delayTest s).trc = s.trc ∧ (delayTest s).gtu = s.gtu ∧ (delayTest s).cve = s.cve ∧
      (delayTest s).grs = s.grs ∧ (delayTest s).pfb = s.pfb ∧ (delayTest s).sdu = s.sdu ∧
      (delayTest s).plx = s.plx ∧ (delayTest s).slp = s.slp ∧ (delayTest s).pending = s.pending := by
  unfold delayTest
  (repeat' split) <;> simp

@[simp] theorem probingTest_frame (s : State) :
    (probingTest s).cve = s.cve ∧ (probingTest s).grs = s.grs ∧ (probingTest s).pfb = s.pfb ∧
      (probingTest s).sdu = s.sdu ∧ (probingTest s).plx = s.plx ∧ (probingTest s).slp = s.slp ∧
      (probingTest s).pending = s.pending := by
  unfold probingTest
  (repeat' split) <;> simp

@[simp] theorem parkTests_frame (s : State) :
    (parkTests s).cve = s.cve ∧ (parkTests s).grs = s.grs ∧ (parkTests s).pfb = s.pfb ∧
      (parkTests s).plx = s.plx ∧ (parkTests s).slp = s.slp ∧ (parkTests s).pending = s.pending := by simp [parkTests]

@[simp] theorem motionTests_frame (s : State) :
    (motionTests s).cve = s.cve ∧ (motionTests s).grs = s.grs ∧ (motionTests s).pfb = s.pfb ∧
      (motionTests s).slp = s.slp ∧ (motionTests s).pending = s.pending := by simp [motionTests]

@[simp] theorem setUpWatch_frame (scan : Nat) (kind : ScanKind) (slot : Option Nat) (s : State) :
    (setUpWatch scan kind slot s).trc = s.trc ∧ (setUpWatch scan kind slot s).gtu = s.gtu ∧
      (setUpWatch scan kind slot s).cve = s.cve ∧ (setUpWatch scan kind slot s).grs = s.grs ∧
      (setUpWatch scan kind slot s).pfb = s.pfb ∧ (setUpWatch scan kind slot s).sdu = s.sdu ∧
      (setUpWatch scan kind slot s).plx = s.plx ∧ (setUpWatch scan kind slot s).slp = s.slp ∧
      (setUpWatch scan kind slot s).pending = s.pending := by
  unfold setUpWatch
  simp

@[simp] theorem countResult_frame (g : GradeRecord) (bw : Reading) (origin : Origin) (scan : Nat) (zone : Option Nat) (s : State) :
    (countResult g bw origin scan zone s).cve = s.cve ∧ (countResult g bw origin scan zone s).sdu = s.sdu ∧
      (countResult g bw origin scan zone s).slp = s.slp ∧
      (countResult g bw origin scan zone s).pending = s.pending := by
  unfold countResult
  dsimp only
  (repeat' split) <;> simp

@[simp] theorem watchScanResult_frame (r : SampleRecord) (bw : Reading) (s : State) :
    (watchScanResult r bw s).cve = s.cve ∧ (watchScanResult r bw s).sdu = s.sdu ∧
      (watchScanResult r bw s).slp = s.slp ∧ (watchScanResult r bw s).pending = s.pending := by
  unfold watchScanResult
  dsimp only
  (repeat' split) <;> simp

@[simp] theorem watchPointResult_frame (r : SampleRecord) (bw : Reading) (s : State) :
    (watchPointResult r bw s).cve = s.cve ∧ (watchPointResult r bw s).sdu = s.sdu ∧
      (watchPointResult r bw s).slp = s.slp ∧ (watchPointResult r bw s).pending = s.pending := by
  unfold watchPointResult
  (repeat' split) <;> simp

@[simp] theorem watchResult_frame (j : SampleJob) (bw : Reading) (s : State) :
    (watchResult j bw s).cve = s.cve ∧ (watchResult j bw s).sdu = s.sdu ∧ (watchResult j bw s).slp = s.slp ∧
      (watchResult j bw s).pending = s.pending := by
  unfold watchResult
  (repeat' split) <;> simp

@[simp] theorem recordProbe_frame (scan width minimum : Nat) (s : State) :
    (recordProbe scan width minimum s).trc = s.trc ∧ (recordProbe scan width minimum s).gtu = s.gtu ∧
      (recordProbe scan width minimum s).cve = s.cve ∧ (recordProbe scan width minimum s).grs = s.grs ∧
      (recordProbe scan width minimum s).pfb = s.pfb ∧ (recordProbe scan width minimum s).sdu = s.sdu ∧
      (recordProbe scan width minimum s).plx = s.plx ∧ (recordProbe scan width minimum s).slp = s.slp ∧
      (recordProbe scan width minimum s).pending = s.pending := by simp [recordProbe]

@[simp] theorem breakEnds_frame (s : State) :
    (breakEnds s).trc = s.trc ∧ (breakEnds s).gtu = s.gtu ∧ (breakEnds s).cve = s.cve ∧
      (breakEnds s).grs = s.grs ∧ (breakEnds s).pfb = s.pfb ∧ (breakEnds s).sdu = s.sdu ∧
      (breakEnds s).slp = s.slp ∧ (breakEnds s).pending = s.pending := by simp [breakEnds]

@[simp] theorem noSheet_frame (s : State) :
    (noSheet s).cve = s.cve ∧ (noSheet s).sdu = s.sdu ∧ (noSheet s).plx = s.plx ∧ (noSheet s).slp = s.slp ∧
      (noSheet s).pending = s.pending := by simp [noSheet]

@[simp] theorem probeReport_frame (scan width minimum : Nat) (s : State) :
    (probeReport scan width minimum s).cve = s.cve ∧ (probeReport scan width minimum s).sdu = s.sdu ∧
      (probeReport scan width minimum s).slp = s.slp ∧ (probeReport scan width minimum s).pending = s.pending := by
  unfold probeReport
  dsimp only
  (repeat' split) <;> simp

@[simp] theorem expireDelay_frame (s : State) :
    (expireDelay s).trc = s.trc ∧ (expireDelay s).gtu = s.gtu ∧ (expireDelay s).cve = s.cve ∧
      (expireDelay s).grs = s.grs ∧ (expireDelay s).pfb = s.pfb ∧ (expireDelay s).sdu = s.sdu ∧
      (expireDelay s).plx = s.plx ∧ (expireDelay s).slp = s.slp ∧ (expireDelay s).pending = s.pending := by simp [expireDelay]

end Sys2Proof.Machine
end

