-- ==== Sys2Proof/Laws/FramesEvents.lean ====
section
/-! SUPPORT. For each operation, the blocks it leaves unchanged: the profile builder, the gates, the standardize unit, the lines and the traverse. -/

namespace Sys2Proof.Machine

@[simp] theorem countScan_frame (s : State) :
    (countScan s).trc = s.trc ∧ (countScan s).gtu = s.gtu ∧ (countScan s).cve = s.cve ∧
      (countScan s).grs = s.grs ∧ (countScan s).sdu = s.sdu ∧ (countScan s).bkm = s.bkm ∧
      (countScan s).plx = s.plx ∧ (countScan s).slp = s.slp ∧ (countScan s).pending = s.pending := by
  unfold countScan
  simp

@[simp] theorem takeStaged_frame (s : State) :
    (takeStaged s).trc = s.trc ∧ (takeStaged s).gtu = s.gtu ∧ (takeStaged s).cve = s.cve ∧
      (takeStaged s).sdu = s.sdu ∧ (takeStaged s).bkm = s.bkm ∧ (takeStaged s).plx = s.plx ∧
      (takeStaged s).slp = s.slp ∧ (takeStaged s).pending = s.pending := by
  unfold takeStaged
  (repeat' split) <;> simp

@[simp] theorem addPin_frame (s : State) :
    (addPin s).trc = s.trc ∧ (addPin s).gtu = s.gtu ∧ (addPin s).cve = s.cve ∧ (addPin s).pfb = s.pfb ∧
      (addPin s).sdu = s.sdu ∧ (addPin s).bkm = s.bkm ∧ (addPin s).plx = s.plx ∧ (addPin s).slp = s.slp ∧
      (addPin s).pending = s.pending := by simp [addPin]

@[simp] theorem clearAcc_frame (acc : Option AccId) (s : State) :
    (clearAcc acc s).trc = s.trc ∧ (clearAcc acc s).gtu = s.gtu ∧ (clearAcc acc s).cve = s.cve ∧
      (clearAcc acc s).grs = s.grs ∧ (clearAcc acc s).sdu = s.sdu ∧ (clearAcc acc s).bkm = s.bkm ∧
      (clearAcc acc s).plx = s.plx ∧ (clearAcc acc s).slp = s.slp ∧ (clearAcc acc s).pending = s.pending := by
  unfold clearAcc
  dsimp only
  (repeat' split) <;> simp

@[simp] theorem addContext_frame (kind : ScanKind) (direction : Direction) (acc : Option AccId) (s : State) :
    (addContext kind direction acc s).trc = s.trc ∧ (addContext kind direction acc s).gtu = s.gtu ∧
      (addContext kind direction acc s).cve = s.cve ∧ (addContext kind direction acc s).grs = s.grs ∧
      (addContext kind direction acc s).sdu = s.sdu ∧ (addContext kind direction acc s).bkm = s.bkm ∧
      (addContext kind direction acc s).plx = s.plx ∧ (addContext kind direction acc s).slp = s.slp ∧
      (addContext kind direction acc s).pending = s.pending := by simp [addContext]

@[simp] theorem profileScanStart_frame (direction : Direction) (s : State) :
    (profileScanStart direction s).trc = s.trc ∧ (profileScanStart direction s).cve = s.cve ∧
      (profileScanStart direction s).sdu = s.sdu ∧ (profileScanStart direction s).slp = s.slp ∧
      (profileScanStart direction s).pending = s.pending := by
  unfold profileScanStart
  dsimp only
  (repeat' split) <;> simp

@[simp] theorem profileScanEnd_frame (scan : Nat) (s : State) :
    (profileScanEnd scan s).trc = s.trc ∧ (profileScanEnd scan s).gtu = s.gtu ∧
      (profileScanEnd scan s).cve = s.cve ∧ (profileScanEnd scan s).sdu = s.sdu ∧
      (profileScanEnd scan s).bkm = s.bkm ∧ (profileScanEnd scan s).plx = s.plx ∧
      (profileScanEnd scan s).slp = s.slp ∧ (profileScanEnd scan s).pending = s.pending := by
  unfold profileScanEnd
  (repeat' split) <;> simp

@[simp] theorem gateNotices_frame (s : State) :
    (gateNotices s).trc = s.trc ∧ (gateNotices s).gtu = s.gtu ∧ (gateNotices s).cve = s.cve ∧
      (gateNotices s).grs = s.grs ∧ (gateNotices s).sdu = s.sdu ∧ (gateNotices s).bkm = s.bkm ∧
      (gateNotices s).plx = s.plx ∧ (gateNotices s).slp = s.slp ∧ (gateNotices s).pending = s.pending := by
  unfold gateNotices
  simp

@[simp] theorem completeScans_frame (s : State) :
    (completeScans s).trc = s.trc ∧ (completeScans s).gtu = s.gtu ∧ (completeScans s).cve = s.cve ∧
      (completeScans s).grs = s.grs ∧ (completeScans s).sdu = s.sdu ∧ (completeScans s).bkm = s.bkm ∧
      (completeScans s).plx = s.plx ∧ (completeScans s).slp = s.slp ∧ (completeScans s).pending = s.pending := by
  unfold completeScans
  simp

@[simp] theorem beginPass_frame (s : State) :
    (beginPass s).trc = s.trc ∧ (beginPass s).gtu = s.gtu ∧ (beginPass s).cve = s.cve ∧
      (beginPass s).grs = s.grs ∧ (beginPass s).sdu = s.sdu ∧ (beginPass s).bkm = s.bkm ∧
      (beginPass s).plx = s.plx ∧ (beginPass s).slp = s.slp ∧ (beginPass s).pending = s.pending := by
  unfold beginPass
  (repeat' split) <;> simp

@[simp] theorem passTests_frame (s : State) :
    (passTests s).trc = s.trc ∧ (passTests s).gtu = s.gtu ∧ (passTests s).cve = s.cve ∧
      (passTests s).grs = s.grs ∧ (passTests s).sdu = s.sdu ∧ (passTests s).bkm = s.bkm ∧
      (passTests s).plx = s.plx ∧ (passTests s).slp = s.slp ∧ (passTests s).pending = s.pending := by simp [passTests]

@[simp] theorem engineTests_frame (s : State) :
    (engineTests s).trc = s.trc ∧ (engineTests s).grs = s.grs ∧ (engineTests s).bkm = s.bkm ∧
      (engineTests s).plx = s.plx ∧ (engineTests s).slp = s.slp ∧ (engineTests s).pending = s.pending := by simp [engineTests]

@[simp] theorem endPass_frame (scan : Nat) (s : State) :
    (endPass scan s).trc = s.trc ∧ (endPass scan s).gtu = s.gtu ∧ (endPass scan s).cve = s.cve ∧
      (endPass scan s).sdu = s.sdu ∧ (endPass scan s).bkm = s.bkm ∧ (endPass scan s).plx = s.plx ∧
      (endPass scan s).slp = s.slp ∧ (endPass scan s).pending = s.pending := by simp [endPass]

@[simp] theorem applyCondition_frame (scan : Nat) (s : State) (c : AlarmKind × Option Nat) :
    (applyCondition scan s c).trc = s.trc ∧ (applyCondition scan s c).gtu = s.gtu ∧
      (applyCondition scan s c).cve = s.cve ∧ (applyCondition scan s c).grs = s.grs ∧
      (applyCondition scan s c).pfb = s.pfb ∧ (applyCondition scan s c).sdu = s.sdu ∧
      (applyCondition scan s c).bkm = s.bkm ∧ (applyCondition scan s c).slp = s.slp ∧
      (applyCondition scan s c).pending = s.pending := by
  unfold applyCondition
  (repeat' split) <;> simp

@[simp] theorem countPublished_frame (s : State) :
    (countPublished s).trc = s.trc ∧ (countPublished s).gtu = s.gtu ∧ (countPublished s).cve = s.cve ∧
      (countPublished s).grs = s.grs ∧ (countPublished s).pfb = s.pfb ∧ (countPublished s).bkm = s.bkm ∧
      (countPublished s).plx = s.plx ∧ (countPublished s).slp = s.slp ∧ (countPublished s).pending = s.pending := by
  unfold countPublished
  dsimp only
  (repeat' split) <;> simp

@[simp] theorem finishPass_frame (c : ScanContext) (g : GradeRecord) (entries : List SlotEntry) (p : PassRecord) (s : State) :
    (finishPass c g entries p s).trc = s.trc ∧ (finishPass c g entries p s).gtu = s.gtu ∧
      (finishPass c g entries p s).cve = s.cve ∧ (finishPass c g entries p s).bkm = s.bkm ∧
      (finishPass c g entries p s).slp = s.slp ∧ (finishPass c g entries p s).pending = s.pending := by simp [finishPass, scanConditions]

@[simp] theorem afterEdges_frame (c : ScanContext) (g : GradeRecord) (geo : Geometry) (p : PassRecord) (s : State) :
    (afterEdges c g geo p s).cve = s.cve ∧ (afterEdges c g geo p s).sdu = s.sdu ∧
      (afterEdges c g geo p s).slp = s.slp ∧ (afterEdges c g geo p s).pending = s.pending := by
  unfold afterEdges
  dsimp only
  (repeat' split) <;> simp

@[simp] theorem runChunk_frame (c : ScanContext) (g : GradeRecord) (geo : Geometry) (p : PassRecord) (s : State) :
    (runChunk c g geo p s).cve = s.cve ∧ (runChunk c g geo p s).slp = s.slp ∧
      (runChunk c g geo p s).pending = s.pending := by
  unfold runChunk
  dsimp only
  (repeat' split) <;> simp

@[simp] theorem chunkResult_frame (k : Chunk) (s : State) :
    (chunkResult k s).cve = s.cve ∧ (chunkResult k s).slp = s.slp ∧ (chunkResult k s).pending = s.pending := by
  unfold chunkResult
  (repeat' split) <;> simp

@[simp] theorem passChunkComplete_frame (s : State) :
    (passChunkComplete s).slp = s.slp ∧ (passChunkComplete s).pending = s.pending := by
  unfold passChunkComplete
  (repeat' split) <;> simp

@[simp] theorem storeResult_frame (j : SampleJob) (s : State) :
    (storeResult j s).trc = s.trc ∧ (storeResult j s).gtu = s.gtu ∧ (storeResult j s).cve = s.cve ∧
      (storeResult j s).grs = s.grs ∧ (storeResult j s).sdu = s.sdu ∧ (storeResult j s).bkm = s.bkm ∧
      (storeResult j s).plx = s.plx ∧ (storeResult j s).slp = s.slp ∧ (storeResult j s).pending = s.pending := by
  unfold storeResult
  (repeat' split) <;> simp

@[simp] theorem sampleJobComplete_frame (s : State) :
    (sampleJobComplete s).slp = s.slp ∧ (sampleJobComplete s).pending = s.pending := by
  unfold sampleJobComplete
  dsimp only
  (repeat' split) <;> simp

@[simp] theorem watchOff_frame (s : State) :
    (watchOff s).trc = s.trc ∧ (watchOff s).gtu = s.gtu ∧ (watchOff s).cve = s.cve ∧
      (watchOff s).grs = s.grs ∧ (watchOff s).pfb = s.pfb ∧ (watchOff s).sdu = s.sdu ∧
      (watchOff s).plx = s.plx ∧ (watchOff s).slp = s.slp ∧ (watchOff s).pending = s.pending := by simp [watchOff]

@[simp] theorem clearProfiles_frame (s : State) :
    (clearProfiles s).trc = s.trc ∧ (clearProfiles s).gtu = s.gtu ∧ (clearProfiles s).cve = s.cve ∧
      (clearProfiles s).sdu = s.sdu ∧ (clearProfiles s).plx = s.plx ∧ (clearProfiles s).slp = s.slp ∧
      (clearProfiles s).pending = s.pending := by simp [clearProfiles]

@[simp] theorem replaceGeometry_frame (g : Geometry) (s : State) :
    (replaceGeometry g s).trc = s.trc ∧ (replaceGeometry g s).sdu = s.sdu ∧
      (replaceGeometry g s).plx = s.plx ∧ (replaceGeometry g s).slp = s.slp ∧
      (replaceGeometry g s).pending = s.pending := by simp [replaceGeometry]

@[simp] theorem closeGate_frame (c : Comparator) (s : State) :
    (closeGate c s).trc = s.trc ∧ (closeGate c s).cve = s.cve ∧ (closeGate c s).grs = s.grs ∧
      (closeGate c s).sdu = s.sdu ∧ (closeGate c s).bkm = s.bkm ∧ (closeGate c s).slp = s.slp ∧
      (closeGate c s).pending = s.pending := by
  unfold closeGate
  (repeat' split) <;> simp

@[simp] theorem traverseScanStart_frame (s : State) :
    (traverseScanStart s).cve = s.cve ∧ (traverseScanStart s).grs = s.grs ∧
      (traverseScanStart s).pfb = s.pfb ∧ (traverseScanStart s).sdu = s.sdu ∧
      (traverseScanStart s).plx = s.plx ∧ (traverseScanStart s).slp = s.slp ∧
      (traverseScanStart s).pending = s.pending := by
  unfold traverseScanStart
  (repeat' split) <;> simp

@[simp] theorem moveTarget_frame (c : Comparator) (s : State) :
    (moveTarget c s).trc = s.trc ∧ (moveTarget c s).cve = s.cve ∧ (moveTarget c s).grs = s.grs ∧
      (moveTarget c s).pfb = s.pfb ∧ (moveTarget c s).sdu = s.sdu ∧ (moveTarget c s).bkm = s.bkm ∧
      (moveTarget c s).plx = s.plx ∧ (moveTarget c s).slp = s.slp ∧ (moveTarget c s).pending = s.pending := by simp [moveTarget]

@[simp] theorem gateScanStart_frame (c : Comparator) (s : State) :
    (gateScanStart c s).cve = s.cve ∧ (gateScanStart c s).sdu = s.sdu ∧ (gateScanStart c s).slp = s.slp ∧
      (gateScanStart c s).pending = s.pending := by simp [gateScanStart]

@[simp] theorem traverseScanEnd_frame (s : State) :
    (traverseScanEnd s).cve = s.cve ∧ (traverseScanEnd s).grs = s.grs ∧ (traverseScanEnd s).pfb = s.pfb ∧
      (traverseScanEnd s).sdu = s.sdu ∧ (traverseScanEnd s).plx = s.plx ∧ (traverseScanEnd s).slp = s.slp ∧
      (traverseScanEnd s).pending = s.pending := by
  unfold traverseScanEnd
  (repeat' split) <;> simp

@[simp] theorem gateScanEnd_frame (c : Comparator) (s : State) :
    (gateScanEnd c s).cve = s.cve ∧ (gateScanEnd c s).sdu = s.sdu ∧ (gateScanEnd c s).slp = s.slp ∧
      (gateScanEnd c s).pending = s.pending := by
  unfold gateScanEnd
  dsimp only
  (repeat' split) <;> simp

@[simp] theorem gateMatch_frame (g : Geometry) (c : Comparator) (s : State) :
    (gateMatch g c s).cve = s.cve ∧ (gateMatch g c s).sdu = s.sdu ∧ (gateMatch g c s).slp = s.slp ∧
      (gateMatch g c s).pending = s.pending := by
  unfold gateMatch
  (repeat' split) <;> simp

@[simp] theorem compare_frame (s : State) :
    (compare s).slp = s.slp ∧ (compare s).pending = s.pending := by
  unfold compare
  (repeat' split) <;> simp

@[simp] theorem reverseTo_frame (direction : Direction) (target : Nat) (park : Bool) (s : State) :
    (reverseTo direction target park s).cve = s.cve ∧ (reverseTo direction target park s).grs = s.grs ∧
      (reverseTo direction target park s).pfb = s.pfb ∧ (reverseTo direction target park s).sdu = s.sdu ∧
      (reverseTo direction target park s).plx = s.plx ∧ (reverseTo direction target park s).slp = s.slp ∧
      (reverseTo direction target park s).pending = s.pending := by simp [reverseTo]

@[simp] theorem reversal_frame (s : State) :
    (reversal s).cve = s.cve ∧ (reversal s).grs = s.grs ∧ (reversal s).pfb = s.pfb ∧
      (reversal s).slp = s.slp ∧ (reversal s).pending = s.pending := by
  unfold reversal
  (repeat' split) <;> simp

@[simp] theorem countEdge_frame (towardsFront : Bool) (s : State) :
    (countEdge towardsFront s).gtu = s.gtu ∧ (countEdge towardsFront s).cve = s.cve ∧
      (countEdge towardsFront s).grs = s.grs ∧ (countEdge towardsFront s).pfb = s.pfb ∧
      (countEdge towardsFront s).sdu = s.sdu ∧ (countEdge towardsFront s).bkm = s.bkm ∧
      (countEdge towardsFront s).plx = s.plx ∧ (countEdge towardsFront s).slp = s.slp ∧
      (countEdge towardsFront s).pending = s.pending := by
  unfold countEdge
  (repeat' split) <;> simp

@[simp] theorem encoderEdge_frame (towardsFront : Bool) (s : State) :
    (encoderEdge towardsFront s).slp = s.slp ∧ (encoderEdge towardsFront s).pending = s.pending := by simp [encoderEdge]

@[simp] theorem headPulse_frame (input : HeadInput) (s : State) :
    (headPulse input s).trc = s.trc ∧ (headPulse input s).cve = s.cve ∧ (headPulse input s).grs = s.grs ∧
      (headPulse input s).pfb = s.pfb ∧ (headPulse input s).sdu = s.sdu ∧ (headPulse input s).bkm = s.bkm ∧
      (headPulse input s).plx = s.plx ∧ (headPulse input s).slp = s.slp ∧
      (headPulse input s).pending = s.pending := by
  unfold headPulse
  (repeat' split) <;> simp

@[simp] theorem closePointGate_frame (periodMs : Nat) (s : State) :
    (closePointGate periodMs s).trc = s.trc ∧ (closePointGate periodMs s).cve = s.cve ∧
      (closePointGate periodMs s).grs = s.grs ∧ (closePointGate periodMs s).sdu = s.sdu ∧
      (closePointGate periodMs s).bkm = s.bkm ∧ (closePointGate periodMs s).slp = s.slp ∧
      (closePointGate periodMs s).pending = s.pending := by simp [closePointGate]

@[simp] theorem pointTimerExpiry_frame (s : State) :
    (pointTimerExpiry s).trc = s.trc ∧ (pointTimerExpiry s).grs = s.grs ∧ (pointTimerExpiry s).bkm = s.bkm ∧
      (pointTimerExpiry s).slp = s.slp ∧ (pointTimerExpiry s).pending = s.pending := by
  unfold pointTimerExpiry
  (repeat' split) <;> simp

@[simp] theorem closeSubGate_frame (d : DwellRecord) (s : State) :
    (closeSubGate d s).trc = s.trc ∧ (closeSubGate d s).cve = s.cve ∧ (closeSubGate d s).grs = s.grs ∧
      (closeSubGate d s).pfb = s.pfb ∧ (closeSubGate d s).bkm = s.bkm ∧ (closeSubGate d s).plx = s.plx ∧
      (closeSubGate d s).slp = s.slp ∧ (closeSubGate d s).pending = s.pending := by simp [closeSubGate]

@[simp] theorem subGateExpiry_frame (s : State) :
    (subGateExpiry s).trc = s.trc ∧ (subGateExpiry s).grs = s.grs ∧ (subGateExpiry s).bkm = s.bkm ∧
      (subGateExpiry s).slp = s.slp ∧ (subGateExpiry s).pending = s.pending := by
  unfold subGateExpiry
  (repeat' split) <;> simp

@[simp] theorem judgementAlarms_frame (channel : Nat) (c : StdChannel) (s : State) :
    (judgementAlarms channel c s).trc = s.trc ∧ (judgementAlarms channel c s).gtu = s.gtu ∧
      (judgementAlarms channel c s).cve = s.cve ∧ (judgementAlarms channel c s).grs = s.grs ∧
      (judgementAlarms channel c s).pfb = s.pfb ∧ (judgementAlarms channel c s).sdu = s.sdu ∧
      (judgementAlarms channel c s).bkm = s.bkm ∧ (judgementAlarms channel c s).slp = s.slp ∧
      (judgementAlarms channel c s).pending = s.pending := by
  unfold judgementAlarms
  dsimp only
  (repeat' split) <;> simp

@[simp] theorem judgeBw_frame (d : DwellRecord) (e : Evaluation) (s : State) :
    (judgeBw d e s).trc = s.trc ∧ (judgeBw d e s).gtu = s.gtu ∧ (judgeBw d e s).cve = s.cve ∧
      (judgeBw d e s).grs = s.grs ∧ (judgeBw d e s).pfb = s.pfb ∧ (judgeBw d e s).bkm = s.bkm ∧
      (judgeBw d e s).slp = s.slp ∧ (judgeBw d e s).pending = s.pending := by simp [judgeBw]

@[simp] theorem judgeMoi_frame (d : DwellRecord) (e : Evaluation) (s : State) :
    (judgeMoi d e s).trc = s.trc ∧ (judgeMoi d e s).gtu = s.gtu ∧ (judgeMoi d e s).cve = s.cve ∧
      (judgeMoi d e s).grs = s.grs ∧ (judgeMoi d e s).pfb = s.pfb ∧ (judgeMoi d e s).bkm = s.bkm ∧
      (judgeMoi d e s).slp = s.slp ∧ (judgeMoi d e s).pending = s.pending := by simp [judgeMoi]

@[simp] theorem judgeCal_frame (d : DwellRecord) (e : Evaluation) (s : State) :
    (judgeCal d e s).trc = s.trc ∧ (judgeCal d e s).gtu = s.gtu ∧ (judgeCal d e s).cve = s.cve ∧
      (judgeCal d e s).grs = s.grs ∧ (judgeCal d e s).pfb = s.pfb ∧ (judgeCal d e s).bkm = s.bkm ∧
      (judgeCal d e s).slp = s.slp ∧ (judgeCal d e s).pending = s.pending := by simp [judgeCal]

@[simp] theorem judgement_frame (d : DwellRecord) (e : Evaluation) (s : State) :
    (judgement d e s).trc = s.trc ∧ (judgement d e s).gtu = s.gtu ∧ (judgement d e s).cve = s.cve ∧
      (judgement d e s).grs = s.grs ∧ (judgement d e s).pfb = s.pfb ∧ (judgement d e s).bkm = s.bkm ∧
      (judgement d e s).slp = s.slp ∧ (judgement d e s).pending = s.pending := by
  unfold judgement
  dsimp only
  (repeat' split) <;> simp

@[simp] theorem dwellEnds_frame (s : State) :
    (dwellEnds s).cve = s.cve ∧ (dwellEnds s).grs = s.grs ∧ (dwellEnds s).pfb = s.pfb ∧
      (dwellEnds s).sdu = s.sdu ∧ (dwellEnds s).plx = s.plx ∧ (dwellEnds s).slp = s.slp ∧
      (dwellEnds s).pending = s.pending := by
  unfold dwellEnds
  (repeat' split) <;> simp

@[simp] theorem completeStandardize_frame (s : State) :
    (completeStandardize s).cve = s.cve ∧ (completeStandardize s).grs = s.grs ∧
      (completeStandardize s).pfb = s.pfb ∧ (completeStandardize s).plx = s.plx ∧
      (completeStandardize s).slp = s.slp ∧ (completeStandardize s).pending = s.pending := by simp [completeStandardize]

@[simp] theorem evaluationResult_frame (e : Evaluation) (s : State) :
    (evaluationResult e s).cve = s.cve ∧ (evaluationResult e s).grs = s.grs ∧
      (evaluationResult e s).pfb = s.pfb ∧ (evaluationResult e s).slp = s.slp ∧
      (evaluationResult e s).pending = s.pending := by
  unfold evaluationResult
  (repeat' split) <;> simp

@[simp] theorem evaluationComplete_frame (s : State) :
    (evaluationComplete s).grs = s.grs ∧ (evaluationComplete s).slp = s.slp ∧
      (evaluationComplete s).pending = s.pending := by
  unfold evaluationComplete
  (repeat' split) <;> simp

@[simp] theorem supervise_frame (s : State) :
    (supervise s).slp = s.slp ∧ (supervise s).pending = s.pending := by
  unfold supervise
  (repeat' split) <;> simp

@[simp] theorem markConfirm_frame (shown : Bool) (s : State) :
    (markConfirm shown s).trc = s.trc ∧ (markConfirm shown s).cve = s.cve ∧
      (markConfirm shown s).grs = s.grs ∧ (markConfirm shown s).pfb = s.pfb ∧
      (markConfirm shown s).bkm = s.bkm ∧ (markConfirm shown s).plx = s.plx ∧
      (markConfirm shown s).slp = s.slp ∧ (markConfirm shown s).pending = s.pending := by
  unfold markConfirm
  (repeat' split) <;> simp

@[simp] theorem confirmSettled_frame (s : State) :
    (confirmSettled s).slp = s.slp ∧ (confirmSettled s).pending = s.pending := by
  unfold confirmSettled
  (repeat' split) <;> simp

@[simp] theorem windowExpiry_frame (s : State) :
    (windowExpiry s).slp = s.slp ∧ (windowExpiry s).pending = s.pending := by
  unfold windowExpiry
  (repeat' split) <;> simp

@[simp] theorem interlockLoss_frame (s : State) :
    (interlockLoss s).slp = s.slp ∧ (interlockLoss s).pending = s.pending := by
  unfold interlockLoss
  dsimp only
  (repeat' split) <;> simp

@[simp] theorem formInterlock_frame (s : State) :
    (formInterlock s).slp = s.slp ∧ (formInterlock s).pending = s.pending := by
  unfold formInterlock
  dsimp only
  (repeat' split) <;> simp

@[simp] theorem formLevelCondition_frame (s : State) :
    (formLevelCondition s).cve = s.cve ∧ (formLevelCondition s).slp = s.slp ∧
      (formLevelCondition s).pending = s.pending := by
  unfold formLevelCondition
  dsimp only
  (repeat' split) <;> simp

@[simp] theorem breakEdge_frame (line : Nat) (mode : InputMode) (leading : Bool) (s : State) :
    (breakEdge line mode leading s).cve = s.cve ∧ (breakEdge line mode leading s).slp = s.slp ∧
      (breakEdge line mode leading s).pending = s.pending := by
  unfold breakEdge
  (repeat' split) <;> simp

@[simp] theorem edgeConsequences_frame (line : Nat) (setting : InputSetting) (leading : Bool) (s : State) :
    (edgeConsequences line setting leading s).slp = s.slp ∧
      (edgeConsequences line setting leading s).pending = s.pending := by
  unfold edgeConsequences
  (repeat' split) <;> simp

@[simp] theorem establishConsequences_frame (setting : InputSetting) (s : State) :
    (establishConsequences setting s).slp = s.slp ∧ (establishConsequences setting s).pending = s.pending := by
  unfold establishConsequences
  (repeat' split) <;> simp

@[simp] theorem setLine_frame (line : Nat) (l : InputLine) (s : State) :
    (setLine line l s).trc = s.trc ∧ (setLine line l s).gtu = s.gtu ∧ (setLine line l s).cve = s.cve ∧
      (setLine line l s).grs = s.grs ∧ (setLine line l s).pfb = s.pfb ∧ (setLine line l s).sdu = s.sdu ∧
      (setLine line l s).bkm = s.bkm ∧ (setLine line l s).slp = s.slp ∧ (setLine line l s).pending = s.pending := by simp [setLine]

@[simp] theorem takeLevel_frame (line : Nat) (s : State) :
    (takeLevel line s).slp = s.slp ∧ (takeLevel line s).pending = s.pending := by
  unfold takeLevel
  dsimp only
  (repeat' split) <;> simp

@[simp] theorem inputRawChange_frame (line : Nat) (high : Bool) (s : State) :
    (inputRawChange line high s).trc = s.trc ∧ (inputRawChange line high s).gtu = s.gtu ∧
      (inputRawChange line high s).cve = s.cve ∧ (inputRawChange line high s).grs = s.grs ∧
      (inputRawChange line high s).pfb = s.pfb ∧ (inputRawChange line high s).sdu = s.sdu ∧
      (inputRawChange line high s).bkm = s.bkm ∧ (inputRawChange line high s).slp = s.slp ∧
      (inputRawChange line high s).pending = s.pending := by
  unfold inputRawChange
  (repeat' split) <;> simp

@[simp] theorem takeIfDue_frame (s : State) (line : Nat) :
    (takeIfDue s line).slp = s.slp ∧ (takeIfDue s line).pending = s.pending := by
  unfold takeIfDue
  (repeat' split) <;> simp

@[simp] theorem setLines_frame (r : LineRecord) (s : State) :
    (setLines r s).slp = s.slp ∧ (setLines r s).pending = s.pending := by
  simp [setLines, List.range, List.range.loop]

@[simp] theorem arriveToScan_frame (s : State) :
    (arriveToScan s).cve = s.cve ∧ (arriveToScan s).grs = s.grs ∧ (arriveToScan s).pfb = s.pfb ∧
      (arriveToScan s).plx = s.plx ∧ (arriveToScan s).slp = s.slp ∧ (arriveToScan s).pending = s.pending := by
  unfold arriveToScan
  (repeat' split) <;> simp

@[simp] theorem arrival_frame (s : State) :
    (arrival s).grs = s.grs ∧ (arrival s).slp = s.slp ∧ (arrival s).pending = s.pending := by
  unfold arrival
  (repeat' split) <;> simp

@[simp] theorem arrivalTest_frame (s : State) :
    (arrivalTest s).grs = s.grs ∧ (arrivalTest s).slp = s.slp ∧ (arrivalTest s).pending = s.pending := by
  unfold arrivalTest
  (repeat' split) <;> simp

@[simp] theorem haltTest_frame (s : State) :
    (haltTest s).cve = s.cve ∧ (haltTest s).grs = s.grs ∧ (haltTest s).pfb = s.pfb ∧
      (haltTest s).slp = s.slp ∧ (haltTest s).pending = s.pending := by
  unfold haltTest
  (repeat' split) <;> simp

@[simp] theorem loopRun_frame (s : State) :
    (loopRun s).grs = s.grs ∧ (loopRun s).slp = s.slp ∧ (loopRun s).pending = s.pending := by simp [loopRun]

@[simp] theorem speedLoopRun_frame (s : State) :
    (speedLoopRun s).grs = s.grs ∧ (speedLoopRun s).slp = s.slp ∧ (speedLoopRun s).pending = s.pending := by
  unfold speedLoopRun
  dsimp only
  (repeat' split) <;> simp

@[simp] theorem faultNow_frame (kind : FaultKind) (s : State) :
    (faultNow kind s).slp = s.slp ∧ (faultNow kind s).pending = s.pending := by simp [faultNow]

@[simp] theorem stallTimeout_frame (s : State) :
    (stallTimeout s).slp = s.slp ∧ (stallTimeout s).pending = s.pending := by
  unfold stallTimeout
  (repeat' split) <;> simp

@[simp] theorem homingTimeout_frame (s : State) :
    (homingTimeout s).slp = s.slp ∧ (homingTimeout s).pending = s.pending := by
  unfold homingTimeout
  (repeat' split) <;> simp

@[simp] theorem currentTrip_frame (s : State) :
    (currentTrip s).slp = s.slp ∧ (currentTrip s).pending = s.pending := by
  unfold currentTrip
  dsimp only
  (repeat' split) <;> simp

@[simp] theorem limitEdge_frame (s : State) :
    (limitEdge s).slp = s.slp ∧ (limitEdge s).pending = s.pending := by
  unfold limitEdge
  (repeat' split) <;> simp

@[simp] theorem homeEdge_frame (active : Bool) (s : State) :
    (homeEdge active s).gtu = s.gtu ∧ (homeEdge active s).cve = s.cve ∧ (homeEdge active s).grs = s.grs ∧
      (homeEdge active s).pfb = s.pfb ∧ (homeEdge active s).sdu = s.sdu ∧ (homeEdge active s).bkm = s.bkm ∧
      (homeEdge active s).plx = s.plx ∧ (homeEdge active s).slp = s.slp ∧
      (homeEdge active s).pending = s.pending := by
  unfold homeEdge
  (repeat' split) <;> simp

@[simp] theorem switchEdge_frame (switch : FrameSwitch) (active : Bool) (s : State) :
    (switchEdge switch active s).slp = s.slp ∧ (switchEdge switch active s).pending = s.pending := by
  unfold switchEdge
  (repeat' split) <;> simp

@[simp] theorem switchSettled_frame (switch : FrameSwitch) (s : State) :
    (switchSettled switch s).slp = s.slp ∧ (switchSettled switch s).pending = s.pending := by
  unfold switchSettled
  dsimp only
  (repeat' split) <;> simp

end Sys2Proof.Machine
end

