-- ==== Sys2Proof/Laws/FramesLink.lean ====
section
/-! SUPPORT. For each operation, the blocks it leaves unchanged: the requests and the link. -/

namespace Sys2Proof.Machine

@[simp] theorem refuse_frame (code : ReplyCode) (s : State) :
    (refuse code s).state.trc = s.trc ∧ (refuse code s).state.gtu = s.gtu ∧
      (refuse code s).state.cve = s.cve ∧ (refuse code s).state.grs = s.grs ∧
      (refuse code s).state.pfb = s.pfb ∧ (refuse code s).state.sdu = s.sdu ∧
      (refuse code s).state.bkm = s.bkm ∧ (refuse code s).state.plx = s.plx ∧
      (refuse code s).state.slp = s.slp ∧ (refuse code s).state.pending = s.pending := by simp [refuse]

@[simp] theorem plain_frame (code : ReplyCode) (s : State) :
    (plain code s).state.trc = s.trc ∧ (plain code s).state.gtu = s.gtu ∧ (plain code s).state.cve = s.cve ∧
      (plain code s).state.grs = s.grs ∧ (plain code s).state.pfb = s.pfb ∧
      (plain code s).state.sdu = s.sdu ∧ (plain code s).state.bkm = s.bkm ∧
      (plain code s).state.plx = s.plx ∧ (plain code s).state.slp = s.slp ∧
      (plain code s).state.pending = s.pending := by simp [plain]

@[simp] theorem answered_frame (record : List Byte) (s : State) :
    (answered record s).state.trc = s.trc ∧ (answered record s).state.gtu = s.gtu ∧
      (answered record s).state.cve = s.cve ∧ (answered record s).state.grs = s.grs ∧
      (answered record s).state.pfb = s.pfb ∧ (answered record s).state.sdu = s.sdu ∧
      (answered record s).state.bkm = s.bkm ∧ (answered record s).state.plx = s.plx ∧
      (answered record s).state.slp = s.slp ∧ (answered record s).state.pending = s.pending := by simp [answered]

@[simp] theorem answerIdentify_frame (s : State) :
    (answerIdentify s).state.trc = s.trc ∧ (answerIdentify s).state.gtu = s.gtu ∧
      (answerIdentify s).state.cve = s.cve ∧ (answerIdentify s).state.grs = s.grs ∧
      (answerIdentify s).state.pfb = s.pfb ∧ (answerIdentify s).state.sdu = s.sdu ∧
      (answerIdentify s).state.bkm = s.bkm ∧ (answerIdentify s).state.plx = s.plx ∧
      (answerIdentify s).state.slp = s.slp ∧ (answerIdentify s).state.pending = s.pending := by simp [answerIdentify]

@[simp] theorem answerStatus_frame (s : State) :
    (answerStatus s).state.trc = s.trc ∧ (answerStatus s).state.gtu = s.gtu ∧
      (answerStatus s).state.cve = s.cve ∧ (answerStatus s).state.grs = s.grs ∧
      (answerStatus s).state.pfb = s.pfb ∧ (answerStatus s).state.sdu = s.sdu ∧
      (answerStatus s).state.bkm = s.bkm ∧ (answerStatus s).state.plx = s.plx ∧
      (answerStatus s).state.pending = s.pending := by simp [answerStatus]

@[simp] theorem answerService_frame (body : List Byte) (s : State) :
    (answerService body s).state.trc = s.trc ∧ (answerService body s).state.gtu = s.gtu ∧
      (answerService body s).state.cve = s.cve ∧ (answerService body s).state.grs = s.grs ∧
      (answerService body s).state.pfb = s.pfb ∧ (answerService body s).state.sdu = s.sdu ∧
      (answerService body s).state.bkm = s.bkm ∧ (answerService body s).state.plx = s.plx ∧
      (answerService body s).state.pending = s.pending := by
  unfold answerService
  dsimp only
  (repeat' split) <;> simp

@[simp] theorem answerResetPart_frame (s : State) :
    (answerResetPart s).state.trc = s.trc ∧ (answerResetPart s).state.gtu = s.gtu ∧
      (answerResetPart s).state.cve = s.cve ∧ (answerResetPart s).state.grs = s.grs ∧
      (answerResetPart s).state.pfb = s.pfb ∧ (answerResetPart s).state.sdu = s.sdu ∧
      (answerResetPart s).state.bkm = s.bkm ∧ (answerResetPart s).state.plx = s.plx ∧
      (answerResetPart s).state.pending = s.pending := by
  unfold answerResetPart
  (repeat' split) <;> simp

@[simp] theorem clearHold_frame (s : State) :
    (clearHold s).gtu = s.gtu ∧ (clearHold s).cve = s.cve ∧ (clearHold s).grs = s.grs ∧
      (clearHold s).pfb = s.pfb ∧ (clearHold s).sdu = s.sdu ∧ (clearHold s).bkm = s.bkm ∧
      (clearHold s).plx = s.plx ∧ (clearHold s).slp = s.slp ∧ (clearHold s).pending = s.pending := by simp [clearHold]

@[simp] theorem enterHoming_frame (s : State) :
    (enterHoming s).cve = s.cve ∧ (enterHoming s).grs = s.grs ∧ (enterHoming s).pfb = s.pfb ∧
      (enterHoming s).sdu = s.sdu ∧ (enterHoming s).plx = s.plx ∧ (enterHoming s).slp = s.slp ∧
      (enterHoming s).pending = s.pending := by
  unfold enterHoming
  dsimp only
  (repeat' split) <;> simp

@[simp] theorem answerHome_frame (s : State) :
    (answerHome s).state.cve = s.cve ∧ (answerHome s).state.grs = s.grs ∧ (answerHome s).state.pfb = s.pfb ∧
      (answerHome s).state.sdu = s.sdu ∧ (answerHome s).state.plx = s.plx ∧
      (answerHome s).state.slp = s.slp ∧ (answerHome s).state.pending = s.pending := by
  unfold answerHome
  (repeat' split) <;> simp

@[simp] theorem wantIfNoAir_frame (s : State) :
    (wantIfNoAir s).trc = s.trc ∧ (wantIfNoAir s).gtu = s.gtu ∧ (wantIfNoAir s).cve = s.cve ∧
      (wantIfNoAir s).grs = s.grs ∧ (wantIfNoAir s).pfb = s.pfb ∧ (wantIfNoAir s).bkm = s.bkm ∧
      (wantIfNoAir s).plx = s.plx ∧ (wantIfNoAir s).slp = s.slp ∧ (wantIfNoAir s).pending = s.pending := by
  unfold wantIfNoAir
  (repeat' split) <;> simp

@[simp] theorem scanByState_frame (s : State) :
    (scanByState s).state.cve = s.cve ∧ (scanByState s).state.grs = s.grs ∧
      (scanByState s).state.pfb = s.pfb ∧ (scanByState s).state.slp = s.slp ∧
      (scanByState s).state.pending = s.pending := by
  unfold scanByState
  dsimp only
  (repeat' split) <;> simp

@[simp] theorem probeNow_frame (s : State) :
    (probeNow s).cve = s.cve ∧ (probeNow s).grs = s.grs ∧ (probeNow s).pfb = s.pfb ∧
      (probeNow s).slp = s.slp ∧ (probeNow s).pending = s.pending := by simp [probeNow]

@[simp] theorem scanInBreak_frame (now : Bool) (s : State) :
    (scanInBreak now s).state.cve = s.cve ∧ (scanInBreak now s).state.grs = s.grs ∧
      (scanInBreak now s).state.pfb = s.pfb ∧ (scanInBreak now s).state.slp = s.slp ∧
      (scanInBreak now s).state.pending = s.pending := by
  unfold scanInBreak
  (repeat' split) <;> simp

@[simp] theorem answerScan_frame (body : List Byte) (s : State) :
    (answerScan body s).state.cve = s.cve ∧ (answerScan body s).state.grs = s.grs ∧
      (answerScan body s).state.pfb = s.pfb ∧ (answerScan body s).state.slp = s.slp ∧
      (answerScan body s).state.pending = s.pending := by
  unfold answerScan
  (repeat' split) <;> simp

@[simp] theorem parkByState_frame (s : State) :
    (parkByState s).state.cve = s.cve ∧ (parkByState s).state.grs = s.grs ∧
      (parkByState s).state.pfb = s.pfb ∧ (parkByState s).state.slp = s.slp ∧
      (parkByState s).state.pending = s.pending := by
  unfold parkByState
  dsimp only
  (repeat' split) <;> simp

@[simp] theorem answerPark_frame (s : State) :
    (answerPark s).state.cve = s.cve ∧ (answerPark s).state.grs = s.grs ∧ (answerPark s).state.pfb = s.pfb ∧
      (answerPark s).state.slp = s.slp ∧ (answerPark s).state.pending = s.pending := by
  unfold answerPark
  (repeat' split) <;> simp

@[simp] theorem answerStop_frame (s : State) :
    (answerStop s).state.slp = s.slp ∧ (answerStop s).state.pending = s.pending := by
  unfold answerStop
  (repeat' split) <;> simp

@[simp] theorem pointByState_frame (position periodMs : Nat) (s : State) :
    (pointByState position periodMs s).state.cve = s.cve ∧
      (pointByState position periodMs s).state.grs = s.grs ∧
      (pointByState position periodMs s).state.pfb = s.pfb ∧
      (pointByState position periodMs s).state.slp = s.slp ∧
      (pointByState position periodMs s).state.pending = s.pending := by
  unfold pointByState
  (repeat' split) <;> simp

@[simp] theorem answerPoint_frame (body : List Byte) (s : State) :
    (answerPoint body s).state.cve = s.cve ∧ (answerPoint body s).state.grs = s.grs ∧
      (answerPoint body s).state.pfb = s.pfb ∧ (answerPoint body s).state.slp = s.slp ∧
      (answerPoint body s).state.pending = s.pending := by
  unfold answerPoint
  dsimp only
  (repeat' split) <;> simp

@[simp] theorem endFaultAlarms_frame (s : State) :
    (endFaultAlarms s).trc = s.trc ∧ (endFaultAlarms s).gtu = s.gtu ∧ (endFaultAlarms s).cve = s.cve ∧
      (endFaultAlarms s).grs = s.grs ∧ (endFaultAlarms s).pfb = s.pfb ∧ (endFaultAlarms s).sdu = s.sdu ∧
      (endFaultAlarms s).bkm = s.bkm ∧ (endFaultAlarms s).slp = s.slp ∧ (endFaultAlarms s).pending = s.pending := by simp [endFaultAlarms]

@[simp] theorem answerClearFault_frame (s : State) :
    (answerClearFault s).state.cve = s.cve ∧ (answerClearFault s).state.grs = s.grs ∧
      (answerClearFault s).state.pfb = s.pfb ∧ (answerClearFault s).state.sdu = s.sdu ∧
      (answerClearFault s).state.slp = s.slp ∧ (answerClearFault s).state.pending = s.pending := by
  unfold answerClearFault
  (repeat' split) <;> simp

@[simp] theorem answerSetDrive_frame (body : List Byte) (s : State) :
    (answerSetDrive body s).state.gtu = s.gtu ∧ (answerSetDrive body s).state.cve = s.cve ∧
      (answerSetDrive body s).state.grs = s.grs ∧ (answerSetDrive body s).state.pfb = s.pfb ∧
      (answerSetDrive body s).state.sdu = s.sdu ∧ (answerSetDrive body s).state.bkm = s.bkm ∧
      (answerSetDrive body s).state.plx = s.plx ∧ (answerSetDrive body s).state.slp = s.slp ∧
      (answerSetDrive body s).state.pending = s.pending := by
  unfold answerSetDrive
  dsimp only
  (repeat' split) <;> simp

@[simp] theorem leaveOldPark_frame (g : Geometry) (s : State) :
    (leaveOldPark g s).cve = s.cve ∧ (leaveOldPark g s).grs = s.grs ∧ (leaveOldPark g s).pfb = s.pfb ∧
      (leaveOldPark g s).sdu = s.sdu ∧ (leaveOldPark g s).plx = s.plx ∧ (leaveOldPark g s).slp = s.slp ∧
      (leaveOldPark g s).pending = s.pending := by
  unfold leaveOldPark
  (repeat' split) <;> simp

@[simp] theorem answerSetGeometry_frame (body : List Byte) (s : State) :
    (answerSetGeometry body s).state.slp = s.slp ∧ (answerSetGeometry body s).state.pending = s.pending := by
  unfold answerSetGeometry
  dsimp only
  (repeat' split) <;> simp

@[simp] theorem answerLoadGrade_frame (body : List Byte) (s : State) :
    (answerLoadGrade body s).state.trc = s.trc ∧ (answerLoadGrade body s).state.gtu = s.gtu ∧
      (answerLoadGrade body s).state.cve = s.cve ∧ (answerLoadGrade body s).state.pfb = s.pfb ∧
      (answerLoadGrade body s).state.sdu = s.sdu ∧ (answerLoadGrade body s).state.bkm = s.bkm ∧
      (answerLoadGrade body s).state.plx = s.plx ∧ (answerLoadGrade body s).state.slp = s.slp ∧
      (answerLoadGrade body s).state.pending = s.pending := by
  unfold answerLoadGrade
  (repeat' split) <;> simp

@[simp] theorem selectScanning_frame (slot : Nat) (s : State) :
    (selectScanning slot s).state.trc = s.trc ∧ (selectScanning slot s).state.gtu = s.gtu ∧
      (selectScanning slot s).state.cve = s.cve ∧ (selectScanning slot s).state.pfb = s.pfb ∧
      (selectScanning slot s).state.sdu = s.sdu ∧ (selectScanning slot s).state.bkm = s.bkm ∧
      (selectScanning slot s).state.plx = s.plx ∧ (selectScanning slot s).state.slp = s.slp ∧
      (selectScanning slot s).state.pending = s.pending := by
  unfold selectScanning
  (repeat' split) <;> simp

@[simp] theorem selectNow_frame (slot : Nat) (s : State) :
    (selectNow slot s).state.cve = s.cve ∧ (selectNow slot s).state.slp = s.slp ∧
      (selectNow slot s).state.pending = s.pending := by
  unfold selectNow
  (repeat' split) <;> simp

@[simp] theorem answerSelectGrade_frame (body : List Byte) (s : State) :
    (answerSelectGrade body s).state.cve = s.cve ∧ (answerSelectGrade body s).state.slp = s.slp ∧
      (answerSelectGrade body s).state.pending = s.pending := by
  unfold answerSelectGrade
  dsimp only
  (repeat' split) <;> simp

@[simp] theorem answerReadGrade_frame (body : List Byte) (s : State) :
    (answerReadGrade body s).state.trc = s.trc ∧ (answerReadGrade body s).state.gtu = s.gtu ∧
      (answerReadGrade body s).state.cve = s.cve ∧ (answerReadGrade body s).state.grs = s.grs ∧
      (answerReadGrade body s).state.pfb = s.pfb ∧ (answerReadGrade body s).state.sdu = s.sdu ∧
      (answerReadGrade body s).state.bkm = s.bkm ∧ (answerReadGrade body s).state.plx = s.plx ∧
      (answerReadGrade body s).state.slp = s.slp ∧ (answerReadGrade body s).state.pending = s.pending := by
  unfold answerReadGrade
  dsimp only
  (repeat' split) <;> simp

@[simp] theorem answerFetchSummary_frame (s : State) :
    (answerFetchSummary s).state.trc = s.trc ∧ (answerFetchSummary s).state.gtu = s.gtu ∧
      (answerFetchSummary s).state.cve = s.cve ∧ (answerFetchSummary s).state.grs = s.grs ∧
      (answerFetchSummary s).state.sdu = s.sdu ∧ (answerFetchSummary s).state.bkm = s.bkm ∧
      (answerFetchSummary s).state.plx = s.plx ∧ (answerFetchSummary s).state.slp = s.slp ∧
      (answerFetchSummary s).state.pending = s.pending := by
  unfold answerFetchSummary
  (repeat' split) <;> simp

@[simp] theorem readProfileOf_frame (ch : Channel) (set : ProfileSet) (body : List Byte) (s : State) :
    (readProfileOf ch set body s).state.trc = s.trc ∧ (readProfileOf ch set body s).state.gtu = s.gtu ∧
      (readProfileOf ch set body s).state.cve = s.cve ∧ (readProfileOf ch set body s).state.grs = s.grs ∧
      (readProfileOf ch set body s).state.pfb = s.pfb ∧ (readProfileOf ch set body s).state.sdu = s.sdu ∧
      (readProfileOf ch set body s).state.bkm = s.bkm ∧ (readProfileOf ch set body s).state.plx = s.plx ∧
      (readProfileOf ch set body s).state.slp = s.slp ∧
      (readProfileOf ch set body s).state.pending = s.pending := by
  unfold readProfileOf
  dsimp only
  (repeat' split) <;> simp

@[simp] theorem answerReadProfile_frame (body : List Byte) (s : State) :
    (answerReadProfile body s).state.trc = s.trc ∧ (answerReadProfile body s).state.gtu = s.gtu ∧
      (answerReadProfile body s).state.cve = s.cve ∧ (answerReadProfile body s).state.grs = s.grs ∧
      (answerReadProfile body s).state.pfb = s.pfb ∧ (answerReadProfile body s).state.sdu = s.sdu ∧
      (answerReadProfile body s).state.bkm = s.bkm ∧ (answerReadProfile body s).state.plx = s.plx ∧
      (answerReadProfile body s).state.slp = s.slp ∧ (answerReadProfile body s).state.pending = s.pending := by
  unfold answerReadProfile
  (repeat' split) <;> simp

@[simp] theorem answerReadTrend_frame (body : List Byte) (s : State) :
    (answerReadTrend body s).state.trc = s.trc ∧ (answerReadTrend body s).state.gtu = s.gtu ∧
      (answerReadTrend body s).state.cve = s.cve ∧ (answerReadTrend body s).state.grs = s.grs ∧
      (answerReadTrend body s).state.pfb = s.pfb ∧ (answerReadTrend body s).state.sdu = s.sdu ∧
      (answerReadTrend body s).state.bkm = s.bkm ∧ (answerReadTrend body s).state.plx = s.plx ∧
      (answerReadTrend body s).state.slp = s.slp ∧ (answerReadTrend body s).state.pending = s.pending := by
  unfold answerReadTrend
  dsimp only
  (repeat' split) <;> simp

@[simp] theorem answerClearProfiles_frame (s : State) :
    (answerClearProfiles s).state.cve = s.cve ∧ (answerClearProfiles s).state.slp = s.slp ∧
      (answerClearProfiles s).state.pending = s.pending := by simp [answerClearProfiles]

@[simp] theorem answerSetStandardize_frame (body : List Byte) (s : State) :
    (answerSetStandardize body s).state.trc = s.trc ∧ (answerSetStandardize body s).state.gtu = s.gtu ∧
      (answerSetStandardize body s).state.cve = s.cve ∧ (answerSetStandardize body s).state.grs = s.grs ∧
      (answerSetStandardize body s).state.pfb = s.pfb ∧ (answerSetStandardize body s).state.bkm = s.bkm ∧
      (answerSetStandardize body s).state.plx = s.plx ∧ (answerSetStandardize body s).state.slp = s.slp ∧
      (answerSetStandardize body s).state.pending = s.pending := by
  unfold answerSetStandardize
  dsimp only
  (repeat' split) <;> simp

@[simp] theorem answerStandardize_frame (s : State) :
    (answerStandardize s).state.cve = s.cve ∧ (answerStandardize s).state.grs = s.grs ∧
      (answerStandardize s).state.pfb = s.pfb ∧ (answerStandardize s).state.slp = s.slp ∧
      (answerStandardize s).state.pending = s.pending := by
  unfold answerStandardize
  (repeat' split) <;> simp

@[simp] theorem answerReadStandardize_frame (s : State) :
    (answerReadStandardize s).state.trc = s.trc ∧ (answerReadStandardize s).state.gtu = s.gtu ∧
      (answerReadStandardize s).state.cve = s.cve ∧ (answerReadStandardize s).state.grs = s.grs ∧
      (answerReadStandardize s).state.pfb = s.pfb ∧ (answerReadStandardize s).state.bkm = s.bkm ∧
      (answerReadStandardize s).state.plx = s.plx ∧ (answerReadStandardize s).state.slp = s.slp ∧
      (answerReadStandardize s).state.pending = s.pending := by simp [answerReadStandardize]

@[simp] theorem answerSetBreak_frame (body : List Byte) (s : State) :
    (answerSetBreak body s).state.trc = s.trc ∧ (answerSetBreak body s).state.gtu = s.gtu ∧
      (answerSetBreak body s).state.cve = s.cve ∧ (answerSetBreak body s).state.grs = s.grs ∧
      (answerSetBreak body s).state.pfb = s.pfb ∧ (answerSetBreak body s).state.sdu = s.sdu ∧
      (answerSetBreak body s).state.plx = s.plx ∧ (answerSetBreak body s).state.slp = s.slp ∧
      (answerSetBreak body s).state.pending = s.pending := by
  unfold answerSetBreak
  dsimp only
  (repeat' split) <;> simp

@[simp] theorem answerReadBreak_frame (s : State) :
    (answerReadBreak s).state.trc = s.trc ∧ (answerReadBreak s).state.gtu = s.gtu ∧
      (answerReadBreak s).state.cve = s.cve ∧ (answerReadBreak s).state.grs = s.grs ∧
      (answerReadBreak s).state.pfb = s.pfb ∧ (answerReadBreak s).state.sdu = s.sdu ∧
      (answerReadBreak s).state.bkm = s.bkm ∧ (answerReadBreak s).state.plx = s.plx ∧
      (answerReadBreak s).state.slp = s.slp ∧ (answerReadBreak s).state.pending = s.pending := by simp [answerReadBreak]

@[simp] theorem answerClearBreakCause_frame (s : State) :
    (answerClearBreakCause s).state.trc = s.trc ∧ (answerClearBreakCause s).state.gtu = s.gtu ∧
      (answerClearBreakCause s).state.cve = s.cve ∧ (answerClearBreakCause s).state.grs = s.grs ∧
      (answerClearBreakCause s).state.pfb = s.pfb ∧ (answerClearBreakCause s).state.sdu = s.sdu ∧
      (answerClearBreakCause s).state.plx = s.plx ∧ (answerClearBreakCause s).state.slp = s.slp ∧
      (answerClearBreakCause s).state.pending = s.pending := by
  unfold answerClearBreakCause
  (repeat' split) <;> simp

@[simp] theorem answerReadAlarms_frame (s : State) :
    (answerReadAlarms s).state.trc = s.trc ∧ (answerReadAlarms s).state.gtu = s.gtu ∧
      (answerReadAlarms s).state.cve = s.cve ∧ (answerReadAlarms s).state.grs = s.grs ∧
      (answerReadAlarms s).state.pfb = s.pfb ∧ (answerReadAlarms s).state.sdu = s.sdu ∧
      (answerReadAlarms s).state.bkm = s.bkm ∧ (answerReadAlarms s).state.slp = s.slp ∧
      (answerReadAlarms s).state.pending = s.pending := by
  unfold answerReadAlarms
  dsimp only
  (repeat' split) <;> simp

@[simp] theorem acknowledge_frame (selects : AlarmKind → Bool) (s : State) :
    (acknowledge selects s).state.trc = s.trc ∧ (acknowledge selects s).state.gtu = s.gtu ∧
      (acknowledge selects s).state.cve = s.cve ∧ (acknowledge selects s).state.grs = s.grs ∧
      (acknowledge selects s).state.pfb = s.pfb ∧ (acknowledge selects s).state.sdu = s.sdu ∧
      (acknowledge selects s).state.bkm = s.bkm ∧ (acknowledge selects s).state.slp = s.slp ∧
      (acknowledge selects s).state.pending = s.pending := by simp [acknowledge]

@[simp] theorem answerAckAlarm_frame (body : List Byte) (s : State) :
    (answerAckAlarm body s).state.trc = s.trc ∧ (answerAckAlarm body s).state.gtu = s.gtu ∧
      (answerAckAlarm body s).state.cve = s.cve ∧ (answerAckAlarm body s).state.grs = s.grs ∧
      (answerAckAlarm body s).state.pfb = s.pfb ∧ (answerAckAlarm body s).state.sdu = s.sdu ∧
      (answerAckAlarm body s).state.bkm = s.bkm ∧ (answerAckAlarm body s).state.slp = s.slp ∧
      (answerAckAlarm body s).state.pending = s.pending := by
  unfold answerAckAlarm
  (repeat' split) <;> simp

@[simp] theorem answerSetLines_frame (body : List Byte) (s : State) :
    (answerSetLines body s).state.slp = s.slp ∧ (answerSetLines body s).state.pending = s.pending := by
  unfold answerSetLines
  (repeat' split) <;> simp

@[simp] theorem answerReadLines_frame (s : State) :
    (answerReadLines s).state.trc = s.trc ∧ (answerReadLines s).state.gtu = s.gtu ∧
      (answerReadLines s).state.cve = s.cve ∧ (answerReadLines s).state.grs = s.grs ∧
      (answerReadLines s).state.pfb = s.pfb ∧ (answerReadLines s).state.sdu = s.sdu ∧
      (answerReadLines s).state.bkm = s.bkm ∧ (answerReadLines s).state.slp = s.slp ∧
      (answerReadLines s).state.pending = s.pending := by simp [answerReadLines]

@[simp] theorem answerDriveOutputs_frame (body : List Byte) (s : State) :
    (answerDriveOutputs body s).state.trc = s.trc ∧ (answerDriveOutputs body s).state.gtu = s.gtu ∧
      (answerDriveOutputs body s).state.cve = s.cve ∧ (answerDriveOutputs body s).state.grs = s.grs ∧
      (answerDriveOutputs body s).state.pfb = s.pfb ∧ (answerDriveOutputs body s).state.sdu = s.sdu ∧
      (answerDriveOutputs body s).state.bkm = s.bkm ∧ (answerDriveOutputs body s).state.slp = s.slp ∧
      (answerDriveOutputs body s).state.pending = s.pending := by
  unfold answerDriveOutputs
  (repeat' split) <;> simp

@[simp] theorem answerTo_frame (kind : ReqKind) (body : List Byte) (s : State) :
    (answerTo kind body s).state.pending = s.pending := by
  unfold answerTo
  (repeat' split) <;> simp

@[simp] theorem frameTaken_frame (s : State) :
    (frameTaken s).trc = s.trc ∧ (frameTaken s).gtu = s.gtu ∧ (frameTaken s).cve = s.cve ∧
      (frameTaken s).grs = s.grs ∧ (frameTaken s).pfb = s.pfb ∧ (frameTaken s).sdu = s.sdu ∧
      (frameTaken s).bkm = s.bkm ∧ (frameTaken s).pending = s.pending := by simp [frameTaken]

@[simp] theorem dispatch_frame (kind : Nat) (body : List Byte) (s : State) :
    (dispatch kind body s).state.pending = s.pending := by
  unfold dispatch
  (repeat' split) <;> simp

@[simp] theorem holdReply_frame (kind : Nat) (tag : Byte) (a : Answer) :
    (holdReply kind tag a).trc = a.state.trc ∧ (holdReply kind tag a).gtu = a.state.gtu ∧
      (holdReply kind tag a).cve = a.state.cve ∧ (holdReply kind tag a).grs = a.state.grs ∧
      (holdReply kind tag a).pfb = a.state.pfb ∧ (holdReply kind tag a).sdu = a.state.sdu ∧
      (holdReply kind tag a).bkm = a.state.bkm ∧ (holdReply kind tag a).plx = a.state.plx ∧
      (holdReply kind tag a).pending = a.state.pending := by simp [holdReply]

@[simp] theorem takeAddressed_frame (kind : Nat) (f : Frame) (s : State) :
    (takeAddressed kind f s).pending = s.pending := by simp [takeAddressed]

@[simp] theorem takeBroadcast_frame (kind : Nat) (body : List Byte) (s : State) :
    (takeBroadcast kind body s).pending = s.pending := by
  unfold takeBroadcast
  (repeat' split) <;> simp

@[simp] theorem acceptFrame_frame (kind : Nat) (f : Frame) (s : State) :
    (acceptFrame kind f s).pending = s.pending := by
  unfold acceptFrame
  (repeat' split) <;> simp

@[simp] theorem setReceiver_frame (r : Receiver) (s : State) :
    (setReceiver r s).trc = s.trc ∧ (setReceiver r s).gtu = s.gtu ∧ (setReceiver r s).cve = s.cve ∧
      (setReceiver r s).grs = s.grs ∧ (setReceiver r s).pfb = s.pfb ∧ (setReceiver r s).sdu = s.sdu ∧
      (setReceiver r s).bkm = s.bkm ∧ (setReceiver r s).plx = s.plx ∧ (setReceiver r s).pending = s.pending := by simp [setReceiver]

@[simp] theorem huntCharacter_frame (byte : Byte) (framingError : Bool) (s : State) :
    (huntCharacter byte framingError s).trc = s.trc ∧ (huntCharacter byte framingError s).gtu = s.gtu ∧
      (huntCharacter byte framingError s).cve = s.cve ∧ (huntCharacter byte framingError s).grs = s.grs ∧
      (huntCharacter byte framingError s).pfb = s.pfb ∧ (huntCharacter byte framingError s).sdu = s.sdu ∧
      (huntCharacter byte framingError s).bkm = s.bkm ∧ (huntCharacter byte framingError s).plx = s.plx ∧
      (huntCharacter byte framingError s).pending = s.pending := by
  unfold huntCharacter
  (repeat' split) <;> simp

@[simp] theorem appendCharacter_frame (buffer : List Byte) (s : State) :
    (appendCharacter buffer s).pending = s.pending := by
  unfold appendCharacter
  (repeat' split) <;> simp

@[simp] theorem characterReceived_frame (byte : Byte) (framingError : Bool) (gapUs : Nat) (s : State) :
    (characterReceived byte framingError gapUs s).pending = s.pending := by
  unfold characterReceived
  (repeat' split) <;> simp

@[simp] theorem lineBreak_frame (s : State) :
    (lineBreak s).trc = s.trc ∧ (lineBreak s).gtu = s.gtu ∧ (lineBreak s).cve = s.cve ∧
      (lineBreak s).grs = s.grs ∧ (lineBreak s).pfb = s.pfb ∧ (lineBreak s).sdu = s.sdu ∧
      (lineBreak s).bkm = s.bkm ∧ (lineBreak s).plx = s.plx ∧ (lineBreak s).pending = s.pending := by simp [lineBreak]

@[simp] theorem powerOn_frame (straps : Straps) (s : State) :
    (powerOn straps s).pending = s.pending := by simp [powerOn]

@[simp] theorem partReset_frame (straps : Straps) (s : State) :
    (partReset straps s).pending = s.pending := by simp [partReset]

@[simp] theorem replyStart_frame (s : State) :
    (replyStart s).trc = s.trc ∧ (replyStart s).gtu = s.gtu ∧ (replyStart s).cve = s.cve ∧
      (replyStart s).grs = s.grs ∧ (replyStart s).pfb = s.pfb ∧ (replyStart s).sdu = s.sdu ∧
      (replyStart s).bkm = s.bkm ∧ (replyStart s).plx = s.plx ∧ (replyStart s).pending = s.pending := by
  unfold replyStart
  (repeat' split) <;> simp

@[simp] theorem listenAgain_frame (s : State) :
    (listenAgain s).trc = s.trc ∧ (listenAgain s).gtu = s.gtu ∧ (listenAgain s).cve = s.cve ∧
      (listenAgain s).grs = s.grs ∧ (listenAgain s).pfb = s.pfb ∧ (listenAgain s).sdu = s.sdu ∧
      (listenAgain s).bkm = s.bkm ∧ (listenAgain s).plx = s.plx ∧ (listenAgain s).pending = s.pending := by simp [listenAgain]

@[simp] theorem replyEnd_frame (straps : Straps) (s : State) :
    (replyEnd straps s).pending = s.pending := by
  unfold replyEnd
  (repeat' split) <;> simp

@[simp] theorem silenceTimeout_frame (s : State) :
    (silenceTimeout s).cve = s.cve ∧ (silenceTimeout s).pending = s.pending := by
  unfold silenceTimeout
  (repeat' split) <;> simp

@[simp] theorem oneMicrosecond_frame (s : State) :
    (oneMicrosecond s).cve = s.cve ∧ (oneMicrosecond s).grs = s.grs ∧ (oneMicrosecond s).pfb = s.pfb ∧
      (oneMicrosecond s).pending = s.pending := by simp [oneMicrosecond]

@[simp] theorem idle_frame (s : State) :
    (idle s).cve = s.cve ∧ (idle s).grs = s.grs ∧ (idle s).pfb = s.pfb := by
  unfold idle
  (repeat' split) <;> simp

@[simp] theorem recoveryDelayExpiry_frame (s : State) :
    (recoveryDelayExpiry s).cve = s.cve ∧ (recoveryDelayExpiry s).grs = s.grs ∧
      (recoveryDelayExpiry s).pfb = s.pfb ∧ (recoveryDelayExpiry s).slp = s.slp ∧
      (recoveryDelayExpiry s).pending = s.pending := by
  unfold recoveryDelayExpiry
  (repeat' split) <;> simp

end Sys2Proof.Machine
end

