-- ==== Sys2Proof/Laws/Operations.lean ====
section
/-! SUPPORT. What the small shared operations do, for proofs to cite in place of their definitions. -/

namespace Sys2Proof.Machine

/-- The held record joining the queue changes no record and no order. -/
theorem joinHeld_contents (g : GateUnit) :
    (joinHeld g).queue ++ (joinHeld g).held.toList = g.queue ++ g.held.toList := by
  unfold joinHeld
  cases hg : g.held with
  | none => simp [hg]
  | some r => by_cases h : g.queue.length < Config.sampleQueueDepth <;> simp [h, hg]

/-- Outside the queue and the holding record nothing changes when the held record joins. -/
theorem joinHeld_rest (g : GateUnit) :
    joinHeld g = { g with queue := (joinHeld g).queue, held := (joinHeld g).held } := by
  unfold joinHeld
  cases g.held with
  | none => simp
  | some r => by_cases h : g.queue.length < Config.sampleQueueDepth <;> simp [h]

/-- After the join the queue keeps its depth, and a record is still held only if the queue is full. -/
theorem joinHeld_bounded (g : GateUnit) (h : g.queue.length ≤ Config.sampleQueueDepth) :
    (joinHeld g).queue.length ≤ Config.sampleQueueDepth
      ∧ ((joinHeld g).held.isSome → (joinHeld g).queue.length = Config.sampleQueueDepth) := by
  unfold joinHeld
  cases hg : g.held with
  | none => simp [h, hg]
  | some r =>
    by_cases hq : g.queue.length < Config.sampleQueueDepth
    · simp [hq]
    · simp only [hq, if_false]
      exact ⟨h, fun _ => Nat.le_antisymm h (Nat.le_of_not_lt hq)⟩

/-- A removal leaves exactly the records its test does not select, in their order. -/
theorem removeRecords_contents (selects : SampleRecord → Bool) (g : GateUnit) :
    (removeRecords selects g).queue ++ (removeRecords selects g).held.toList
      = (g.queue ++ g.held.toList).filter fun r => !selects r := by
  unfold removeRecords
  rw [joinHeld_contents]
  cases g.held with
  | none => simp
  | some r => cases h : selects r <;> simp [h, Option.filter]

/-- A removal changes nothing of the gate unit but the queue and the holding record. -/
theorem removeRecords_rest (selects : SampleRecord → Bool) (g : GateUnit) :
    removeRecords selects g =
      { g with queue := (removeRecords selects g).queue, held := (removeRecords selects g).held } := by
  unfold removeRecords
  rw [joinHeld_rest]

/-- What a capture leaves in the gate unit. -/
theorem capture_gtu (s : State) :
    (capture s).gtu =
      { s.gtu with gateTimer := 0, counters := .zero, unconfirmed := !s.sdu.confirm.level } := rfl

/-- What removing scans leaves in the profile builder and in the grade store. -/
theorem removeScans_blocks (numbers : List Nat) (s : State) :
    (removeScans numbers s).pfb =
        { s.pfb with contexts := s.pfb.contexts.filter fun c => !numbers.contains c.number }
      ∧ (removeScans numbers s).grs =
        { s.grs with pins := s.grs.pins.filter fun p => !numbers.contains p.scan } := ⟨rfl, rfl⟩

/-- A request for re-seed leaves it set, and changes nothing else of the profile builder. -/
theorem setReseed_pfb (m : Mark) (s : State) :
    (setReseed m s).pfb.reseed.isSome = true
      ∧ (setReseed m s).pfb = { s.pfb with reseed := (setReseed m s).pfb.reseed } := by
  refine ⟨?_, rfl⟩
  simp only [setReseed, State.modPfb]
  cases s.pfb.reseed with
  | none => rfl
  | some r => by_cases hm : r.mark.order < m.order <;> simp [hm]

/-- A re-seed set before any other takes the mark given. -/
theorem setReseed_first (m : Mark) (s : State) (h : s.pfb.reseed = none) :
    (setReseed m s).pfb.reseed = some { mark := m, later := none } := by
  simp [setReseed, State.modPfb, h]

/-- What acting on a slot entry leaves in the accumulators: entry `slot` of the scan's own accumulator. -/
theorem modEntry_entries (scan slot : Nat) (f : SlotEntry → SlotEntry) (s : State) (a : AccId)
    (h : (contextOf s scan).bind ScanContext.accumulator = some a) (b : AccId) :
    (modEntry scan slot f s).pfb.entries b =
      if b = a then (s.pfb.entries b).modify slot f else s.pfb.entries b := by
  unfold modEntry
  rw [h]
  cases a <;> cases b <;> rfl

/-- A raise keeps the kinds of the list, adding its own at the end when it had no entry. -/
theorem raiseIn_kinds (kind : AlarmKind) (detail : Int) (scan : Nat) (l : List AlarmEntry) :
    (raiseIn kind detail scan l).map AlarmEntry.kind =
      if kind ∈ l.map AlarmEntry.kind then l.map AlarmEntry.kind
      else l.map AlarmEntry.kind ++ [kind] := by
  have hany : l.any (fun e => e.kind == kind) = decide (kind ∈ l.map AlarmEntry.kind) := by
    induction l with
    | nil => simp
    | cons e l ih => rw [List.any_cons, ih]; simp [eq_comm (a := kind), beq_eq_decide]
  unfold raiseIn
  rw [hany]
  by_cases h : kind ∈ l.map AlarmEntry.kind
  · simp only [h, decide_true, if_true, List.map_map]
    refine List.map_congr_left fun e _ => ?_
    simp only [Function.comp]
    split
    · unfold raisedEntry
      split <;> rfl
    · rfl
  · simp [h]

/-- A quotient rounded to the nearest integer, halves upward: the value is within half a divisor. -/
theorem nearestUp_spec (a b : Nat) (h : 0 < b) :
    2 * a < 2 * b * nearestUp a b + b ∧ 2 * b * nearestUp a b ≤ 2 * a + b := by
  have h2 : 0 < 2 * b := by omega
  have hd := Nat.div_add_mod (2 * a + b) (2 * b)
  have hm := Nat.mod_lt (2 * a + b) h2
  unfold nearestUp
  generalize 2 * b * ((2 * a + b) / (2 * b)) = q at *
  omega

/-- A value held to the upper end of its range. -/
theorem cap_spec (limit x : Nat) : cap limit x = (min limit x, decide (limit < x)) := by
  unfold cap
  by_cases h : limit < x
  · simp [h, Nat.min_eq_left (Nat.le_of_lt h)]
  · simp [h, Nat.min_eq_right (Nat.le_of_not_lt h)]

/-- A rounded quotient held to the upper end of its range: the value is the rounded quotient held there, the mark compares the exact one. -/
theorem capQuotient_spec (limit a b : Nat) (hb : 0 < b) :
    capQuotient limit a b = (min limit (nearestUp a b), decide (limit * b < a)) := by
  unfold capQuotient nearestUp
  by_cases h : limit * b < a
  · have : limit ≤ (2 * a + b) / (2 * b) := by
      rw [Nat.le_div_iff_mul_le (by omega)]
      nlinarith
    simp [h, Nat.min_eq_left this]
  · have : (2 * a + b) / (2 * b) ≤ limit := by
      rw [← Nat.lt_succ_iff, Nat.div_lt_iff_lt_mul (by omega)]
      nlinarith
    simp [h, Nat.min_eq_right this]

/-- A removal of records: what is left of the queue and of the holding record, the held one joining a queue with room. -/
theorem removeRecords_eq (selects : SampleRecord → Bool) (g : GateUnit) :
    let queue := g.queue.filter fun r => !selects r
    let held := g.held.filter fun r => !selects r
    removeRecords selects g =
      { g with
        queue := if queue.length < 8 then queue ++ held.toList else queue
        held := if queue.length < 8 then none else held } := by
  unfold removeRecords joinHeld
  simp only [Config.sampleQueueDepth]
  cases h : g.held.filter (fun r => !selects r) <;>
    by_cases hl : (g.queue.filter fun r => !selects r).length < 8 <;> simp [hl]

/-- The scan alarm conditions of a pass change the alarm list and its indication only. -/
theorem applyCondition_fold (scan : Nat) (l : List (AlarmKind × Option Nat)) (s : State) :
    l.foldl (applyCondition scan) s =
      { s with
        plx :=
          { s.plx with
            alarms :=
              l.foldl
                (fun a c => match c.2 with
                  | some detail => raiseIn c.1 detail scan a
                  | none => endIn c.1 a) s.plx.alarms
            alarmNew := s.plx.alarmNew || l.any fun c => c.2.isSome } } := by
  induction l generalizing s with
  | nil => simp
  | cons c l ih =>
    rcases c with ⟨kind, _ | detail⟩
    · rw [List.foldl_cons, ih]
      simp [applyCondition, endAlarm, State.modPlx]
    · rw [List.foldl_cons, ih]
      simp [applyCondition, raiseFor, State.modPlx]

/-! ## Slot boundaries -/

/-- The boundaries of the slots do not fall from one to the next. -/
theorem boundary_mono (g : Geometry) {i j : Nat} (h : i ≤ j) : g.boundary i ≤ g.boundary j :=
  Nat.add_le_add_left (Nat.div_le_div_right (Nat.mul_le_mul_right _ h)) _

/-- In a geometry within its ranges every boundary before the last lies below W1. -/
theorem boundary_lt (g : Geometry) (h : g.inRange = true) {j : Nat} (hj : j < g.slotCount) :
    g.boundary j < g.W1 := by
  simp only [Geometry.inRange, Bool.and_eq_true, decide_eq_true_eq] at h
  have room : 20 * g.slotCount ≤ g.W1 - g.W0 := h.2
  have : j * (g.W1 - g.W0) / g.slotCount < g.W1 - g.W0 := by
    rw [Nat.div_lt_iff_lt_mul (by omega), Nat.mul_comm]
    exact Nat.mul_lt_mul_of_pos_left hj (by omega)
  unfold Geometry.boundary
  omega

/-- Where the first m of n bounds are reached by a position and the rest are not, m are counted. -/
theorem reached_count (b : Nat → Nat) (p : Int) (n m : Nat) (hm : m ≤ n)
    (lo : ∀ j, j < m → (b j : Int) ≤ p) (hi : ∀ j, m ≤ j → j < n → p < b j) :
    ((List.range n).filter fun j => decide ((b j : Int) ≤ p)).length = m := by
  obtain ⟨k, rfl⟩ := Nat.exists_eq_add_of_le hm
  have below : (List.range m).filter (fun j => decide ((b j : Int) ≤ p)) = List.range m := by
    rw [List.filter_eq_self]
    exact fun a ha => by simpa using lo a (List.mem_range.mp ha)
  have above : ((List.range k).map (m + ·)).filter (fun j => decide ((b j : Int) ≤ p)) = [] := by
    rw [List.filter_eq_nil_iff]
    intro a ha
    obtain ⟨x, hx, rfl⟩ := List.mem_map.mp ha
    have := hi (m + x) (by omega) (by have := List.mem_range.mp hx; omega)
    simpa using this
  rw [List.range_add, List.filter_append, List.length_append, below, above]
  simp

/-! ## Moves and aborts -/

/-- The park order of a declaration is that of R25, or nothing in a transit. -/
theorem declarationPark_cases (s : State) :
    declarationPark s = parkOrder s
      ∨ declarationPark s = s ∧ ∃ target andThen, s.trc.state = .transit target andThen := by
  unfold declarationPark
  split
  · rename_i target andThen h
    split
    · exact .inl rfl
    · exact .inr ⟨rfl, target, andThen, h⟩
  · exact .inl rfl

/-- What a move does to the traverse controller is what the entry into the state does. -/
theorem moveTo_trc (new : TraverseState) (s : State) : (moveTo new s).trc = enterState new s.trc := by
  unfold moveTo
  dsimp only
  (repeat' split) <;> simp

/-- The abort of the open scan takes no number back. -/
@[simp] theorem abortOpenScan_scanNumber (s : State) :
    (abortOpenScan s).pfb.scanNumber = s.pfb.scanNumber := by
  unfold abortOpenScan
  split <;> simp [removeScans, purge]

end Sys2Proof.Machine
end

