-- ==== Sys2Proof/WellFormed.lean ====
section
/-! DEFINITION. Well-formed commands: operands that the wiring and the link can carry (R176, R178, R180). -/

namespace Sys2Proof

open Sys2Proof.Machine

/-- R176: a frame's body has at most 512 bytes. -/
def Frame.bodyInLimit (f : Frame) : Bool := f.body.length ≤ Config.maxBody

/-- R176: a request names an address of the link, 0 to 15. -/
def Frame.addressInLimit (f : Frame) : Bool := f.address.toNat ≤ 15

/-- A frame that a request of a known kind may be. -/
def Frame.wf (f : Frame) : Bool := f.bodyInLimit && f.addressInLimit

/-- R179: the kind byte is a request kind and no code of the table. -/
def unknownKind (kind : Byte) : Bool := kind.toNat < 0x80 && (kindOf kind.toNat).isNone

/-- Well-formed commands. The other operands have types that hold nothing else. -/
def Instr.wf : Instr → Bool
  | .identify f | .status f | .service f | .resetPart f | .home f | .scan f | .park f | .stop f
  | .point f | .clearFault f | .setDrive f | .setGeometry f | .loadGrade f | .selectGrade f
  | .readGrade f | .fetchSummary f | .readProfile f | .readTrend f | .clearProfiles f
  | .setStandardize f | .standardize f | .readStandardize f | .setBreak f | .readBreak f
  | .clearBreakCause f | .readAlarms f | .ackAlarm f | .setLines f | .readLines f
  | .driveOutputs f => f.wf
  | .unknownKindRequest kind f => unknownKind kind && f.wf
  | .ignoredFrame _ f => f.bodyInLimit
  | .powerOnReset _ | .lineBreak | .replyStart | .replyEnd _ | .silenceTimeout | .pwmPeriodStart
  | .speedLoopRun | .stallTimeout | .homingTimeout | .currentTrip | .offTimeEnd | .tripWindowEnd
  | .encoderEdge _ | .frameSwitchRawChange _ _ | .frameSwitchSettled _ | .headPulse _
  | .pointTimerExpiry | .subGateExpiry | .sampleJobComplete | .passChunkComplete
  | .recoveryDelayExpiry | .evaluationComplete | .shutterConfirmRawChange _
  | .shutterConfirmSettled | .shutterWindowExpiry | .inputRawChange _ _ | .inputDebounceExpiry _
  | .characterReceived _ _ _ => true

end Sys2Proof
end

