-- ==== Sys2Proof/Tests/Slice0.lean ====
section
/-! SUPPORT. Tests: what the well-formedness check refuses, the worked examples of the spec, one step of the commands, and for each obligation with hypotheses a state and operands that meet them. -/

namespace Sys2Proof.Machine.Slice0

/-! ## Small states -/

/-- The geometry of "Boundaries of a narrow window, worked" (02). -/
def narrow : Geometry := { L := 20000, P := 9500, W0 := 10000, W1 := 10500, U := 400, Z := 8, S := 3 }

/-- The geometry of "Worked setpoints for one geometry" (01). -/
def wide : Geometry := { L := 80000, P := 500, W0 := 4000, W1 := 76000, U := 2000, Z := 600, S := 4 }

/-- The BW table of "Slot conversion, worked" (03). -/
def bwTable : Table := [(65535, 0), (52000, 4000), (40000, 9000), (30000, 14000), (20000, 21000)]

/-- The moisture part of "Slot conversion, worked" (03). -/
def moisture : MoisturePart :=
  { table := [(16384, 0), (15000, 250), (13500, 550), (12000, 900)], floor := 2000, target := 500, band := 100 }

/-- The caliper table of "Slot conversion, worked" (03). -/
def caliper : Table := [(0, 0), (20000, 500), (40000, 1050), (60000, 1650)]

/-- The grade of "A full scan, worked" (05). -/
def plain : GradeRecord :=
  { code := 4512, speed := 12000, bwTable := bwTable, bwTarget := 6900, bwBand := 150
    edgeThreshold := 2000, edgeGuard := 1, minSheetZones := 4, breakThreshold := 1000, breakRun := 4
    filterShift := 2, spreadLimit := 300, moisture := none, caliper := none }

/-- The grade of "Slot conversion, worked" (03), with both parts. -/
def full : GradeRecord := { plain with moisture := some moisture, caliper := some caliper }

/-- The references of "Slot conversion, worked" (03). -/
def refs : References := { b := 1200, r0 := 12000000, q0 := 14000, f0 := 1000000 }

/-- No flag set. -/
def noFlags : SampleFlags :=
  { shortGate := false, longGate := false, satBw := false, satMa := false, satMr := false
    satCl := false, shutterUnconfirmed := false }

/-- The record of "Slot conversion, worked" (03). -/
def sample : SampleRecord :=
  { kind := .scan, number := 12, slot := some 5, direction := some .fwd, gateTime := 50000
    counts := { bwc := 412000, mac := 300000, mrc := 400000, clc := 51800 }, flags := noFlags }

/-- A part at address 4 after its set-up: geometry, one grade active, references, homed and PARKED. -/
def parked : State :=
  { State.reset with
    trc := { State.reset.trc with state := .parked, homed := true, position := 9500 }
    gtu := { State.reset.gtu with geometry := some narrow }
    grs := { slots := some plain :: List.replicate 7 none, active := some 0, staged := none, pins := [] }
    pfb := .fresh 24 8
    sdu := { State.reset.sdu with refs := refs }
    slp := { State.reset.slp with address := 4 } }

/-- The same part in another traverse state. -/
def inState (t : TraverseState) : State := { parked with trc := { parked.trc with state := t } }

/-- The same part at a position, SCANNING, its comparator armed. -/
def scanningAt (position : Int) (direction : Direction) (phase : ScanPhase) (target : Nat) : State :=
  { parked with
    trc := { parked.trc with state := .scanning direction phase false false, position := position }
    gtu := { parked.gtu with comparator := some { direction := direction, target := target } } }

/-- A held NORMAL scan. -/
def context (number : Nat) (stage : ScanStage) : ScanContext :=
  { number := number, order := number, kind := .normal, direction := .fwd, slot := some 0
    accumulator := some .acc0, stage := stage, gateNotice := false }

/-- A request frame to address 4. -/
def frame (body : List Byte) : Frame := { address := 4, tag := 7, body := body }

/-- A broadcast frame. -/
def broadcast (body : List Byte) : Frame := { address := 15, tag := 7, body := body }

/-- The state a command leaves. -/
def after (c : Instr) (s : State) : State :=
  match exec c s with
  | .next t => t
  | .fault _ | .refused _ => s

/-- The body of the reply that a state holds, less its record: outcome, attention, traverse and break codes. -/
def prefixOf (s : State) : List Byte :=
  match s.slp.port with
  | .replying reply => (reply.drop 6).take 4
  | .listening => []

/-! ## Well-formedness -/

theorem test_wf_body_limit :
    (Instr.identify (frame (List.replicate 513 0))).wf = false
      ∧ (Instr.identify (frame (List.replicate 512 0))).wf = true := by decide +kernel

theorem test_wf_address :
    (Instr.home { address := 16, tag := 0, body := [] }).wf = false
      ∧ (Instr.home (broadcast [])).wf = true := by decide +kernel

theorem test_wf_unknown_kind :
    (Instr.unknownKindRequest 0x10 (frame [])).wf = false
      ∧ (Instr.unknownKindRequest 0x80 (frame [])).wf = false
      ∧ (Instr.unknownKindRequest 0x05 (frame [])).wf = true := by decide +kernel

theorem test_wf_ignored_frame :
    (Instr.ignoredFrame 0x90 (frame (List.replicate 513 0))).wf = false
      ∧ (Instr.ignoredFrame 0x90 (broadcast [])).wf = true := by decide +kernel

/-! ## Worked examples of the spec -/

/-- R176: the check of an implementation. -/
theorem test_crc_check_value :
    crc16 [0x31, 0x32, 0x33, 0x34, 0x35, 0x36, 0x37, 0x38, 0x39] = 0x29B1#16 := by decide +kernel

/-- R53, R54, R55, R56: the examples of the named roundings. -/
theorem test_roundings :
    [nearestUp 35025000 12000, nearestUp 5 2, nearestUp 7 4] = [2919, 3, 2]
      ∧ [nearestAway 35025000 12000, nearestAway (-15) 10, nearestAway 15 10, nearestAway (-24) 10
          , nearestAway 186000 1500] = [2919, -2, 2, -2, 124]
      ∧ [floorShift 1 1, floorShift 1 (-1), floorShift 2 2, floorShift 2 (-2), floorShift 2 (-10)]
        = [1, 0, 1, 0, -2]
      ∧ isqrt 1000 = 31 := by decide +kernel

/-- R53: an exact quotient just above the limit is held there and marked, one at it is not. -/
theorem test_exact_quotient :
    [capQuotient 65535 262141 4, capQuotient 65535 262140 4, capQuotient 65535 7 4]
      = [(65535, true), (65535, false), (2, false)] := by decide +kernel

/-- R69: the segment (0, 100) to (10, 97) at 5. -/
theorem test_lookup_halves : lookup [(0, 100), (10, 97)] 5 = (98, false) := by decide +kernel

/-- "Slot conversion, worked" (03). -/
theorem test_conversion_worked :
    convertUnder full sample refs =
      { bw := .valid 6919 false, moi := .valid 541 false, cal := .valid 940 false
        dry := .valid 6545 false } := by decide +kernel

/-- "Conversions at the limits, worked" (03). -/
theorem test_conversion_limits :
    convertUnder full { sample with flags := { noFlags with shortGate := true } } refs
        = { bw := .invalid, moi := .invalid, cal := .invalid, dry := .invalid }
      ∧ convertUnder full sample { refs with r0 := 0 }
        = { bw := .invalid, moi := .invalid, cal := .valid 940 false, dry := .invalid }
      ∧ convertUnder full sample { refs with q0 := 0 }
        = { bw := .valid 6919 false, moi := .absent, cal := .valid 940 false, dry := .absent }
      ∧ (convertUnder full { sample with counts := { sample.counts with clc := 49000 } } refs).cal
        = .valid 0 true
      ∧ lookup bwTable 15000 = (21000, true) := by decide +kernel

/-- "Boundaries of a narrow window, worked" (02). -/
theorem test_boundaries :
    [0, 1, 2, 3, 4, 5, 6, 24].map narrow.boundary
        = [10000, 10020, 10041, 10062, 10083, 10104, 10125, 10500]
      ∧ narrow.inRange = true := by decide +kernel

/-- R31: W0 = 1000, U = 401 and P = 600 pass, P = 601 fails. -/
theorem test_geometry_park_limit :
    let g : Geometry := { L := 20000, P := 600, W0 := 1000, W1 := 10000, U := 401, Z := 8, S := 1 }
    g.inRange = true ∧ { g with P := 601 }.inRange = false := by decide +kernel

/-- 1.4: the loop example, 600 becomes 631. -/
theorem test_loop_example :
    (loopUpdate 12000 { parked.trc with buffer := 600, vMeas := 11000 }).buffer = 631 := by decide +kernel

/-- "Worked setpoints for one geometry" (01). -/
theorem test_setpoints_worked :
    let s : State := { parked with gtu := { parked.gtu with geometry := some wide } }
    let run (p : Int) (t : TraverseState) (c : Option Comparator) : Int :=
      setpoint { s with
        trc := { s.trc with position := p, state := t }
        gtu := { s.gtu with comparator := c } }
    [run 2000 (.scanning .fwd .turn true false) (some { direction := .fwd, target := 0 })
      , run 76001 (.scanning .fwd .turn false false) none
      , run 76500 (.scanning .fwd .turn false false) none
      , run 76990 (.scanning .rev .turn false false) (some { direction := .rev, target := 2400 })
      , run 76400 (.scanning .rev .turn false false) (some { direction := .rev, target := 2400 })
      , run 1200 (.transit .park .noAction) none, run 600 (.transit .park .noAction) none]
      = [12000, 11988, 6000, -200, -7200, -2100, -300] := by decide +kernel

/-- "Slot conversion, worked" (03): the filter on a zone of value 6919. -/
theorem test_filter_worked :
    filteredValue false 2 (some 6880) 6919 = 6890 ∧ filteredValue false 2 (some 6930) 6919 = 6927 := by
  decide +kernel

/-- The slot entries of "A full scan, worked" (05). -/
def fullScan : List SlotEntry :=
  let v (n : Nat) : SlotEntry :=
    { readings := { bw := .valid n false, moi := .absent, cal := .absent, dry := .absent }, missed := false }
  let bad : SlotEntry :=
    { readings := { bw := .invalid, moi := .absent, cal := .absent, dry := .absent }, missed := false }
  [v 150, v 900, v 1800, v 6800, v 6910, v 6950, v 6900, { bad with missed := true }, v 6940
   , v 6870, bad, bad, v 6980, v 7010, v 7000, v 1200, v 1500, v 1650, v 6850, v 6860, v 6880
   , v 2500, v 800, v 300]

/-- The pass of "A full scan, worked" (05) after steps A and B. -/
def fullPass : PassRecord := stepB plain (stepA plain narrow fullScan (.fresh 12))

/-- "A full scan, worked" (05): zones, edges, holes and the statistics of BW. -/
theorem test_full_scan :
    fullPass.zones.map (fun z => z.readings.bw)
        = [.valid 950, .valid 6887, .valid 6920, .invalid, .valid 6997, .valid 1450, .valid 6863, .valid 1200]
      ∧ fullPass.edges = { span := some (1, 6), width := 6, holes := 1 }
      ∧ (channelSummary (stepC plain narrow fullPass) .bw).status
        = .ok { mean := 6959, twoSigma := 76, least := 6920, leastZone := 2, greatest := 6997
                greatestZone := 4 }
      ∧ [(6870, 6887), (6930, 6920), (6960, 6997), (6880, 1450), (6870, 6863)].map
          (fun x => filteredValue false 2 (some x.1) x.2) = [6874, 6928, 6969, 5523, 6868] := by decide +kernel

/-- "A standardize with one rejected channel, worked" (06): candidates and drifts. -/
theorem test_standardize_worked :
    let dark : PhaseSums := { time := 4000000, bw := 5000, ma := 0, mr := 0, cl := 0 }
    let air : PhaseSums :=
      { time := 4000000, bw := 48605000, ma := 27000000, mr := 31000000, cl := 4112000 }
    (candidateB dark, candidateR0 dark air, candidateQ0 air, candidateF0 air)
        = (1250, 12150000, some 14270, 1028000)
      ∧ [driftOf 12150000 12000000, driftOf 14270 14000, driftOf 1028000 1000000]
        = [some 13, some 19, some 28]
      ∧ judgeCandidate 1000000 20 1028000 = .rejected .drift := by decide +kernel

/-- 10.2: the example body lengths, and the parts byte that announces a part the body lacks. -/
theorem test_grade_lengths :
    let short : GradeRecord := { full with caliper := none }
    ((gradeBytes 0 full).length, (gradeBytes 0 short).length) = (82, 65)
      ∧ walkGrade ((gradeBytes 0 short).set 20 3) = none
      ∧ walkGrade (gradeBytes 0 full) = some { slot := 0, parts := 3, record := full } := by decide +kernel

/-! ## One step of some commands -/

/-- The table gives no row any bits. -/
theorem test_no_word_spells_a_command : decodeTableWord 32 7 = none := by decide +kernel

/-- R177 and R188: HOME is answered ACCEPTED, with RESET_SEEN in the attention byte and HOMING as the traverse code. -/
theorem test_home_reply :
    prefixOf (after (.home (frame [])) parked) = [0x01, 0x20, 0x01, 0x00]
      ∧ (after (.home (frame [])) parked).trc.state = .homing .seekHome := by decide +kernel

/-- R179: an unknown kind is refused with UNKNOWN_KIND, a wrong length with BAD_LENGTH. -/
theorem test_refusals :
    (prefixOf (after (.unknownKindRequest 0x05 (frame [])) parked)).head? = some 0x10
      ∧ (prefixOf (after (.home (frame [1])) parked)).head? = some 0x11 := by decide +kernel

/-- R38: a counter at its limit stays there. -/
theorem test_pulse_saturates :
    (after (.headPulse .mac)
      { parked with gtu := { parked.gtu with counters := { Counts.zero with mac := 16777215 } } }).gtu.counters.mac
      = 16777215 := by decide +kernel

/-- R34, R35: going REV, the match of b_6 closes slot 6. -/
theorem test_reverse_gate :
    let s := scanningAt 10126 .rev .inWindow 6
    (after (.encoderEdge false)
        { s with
          gtu := { s.gtu with openScan := some { number := 12, kind := .probe }, gateTimer := 5000 }
          cve := { s.cve with job := some (.chunk { scan := 1, step := .edges, firstZone := 0 }) } }).gtu.queue.map
          (fun r => (r.slot, r.kind, r.gateTime)) = [(some 6, .probe, 5000)] := by decide +kernel

/-- R6: the eighth trip of a window faults the traverse. -/
theorem test_eighth_trip :
    (after .currentTrip { parked with trc := { parked.trc with tripCount := 7 } }).trc.state
        = .faulted .driveCurrent
      ∧ (after .currentTrip { parked with trc := { parked.trc with tripCount := 6 } }).trc.state = .parked := by
  decide +kernel

/-- R163, R164: the first level taken is an establishment and latches nothing. -/
theorem test_establishment :
    (after (.inputDebounceExpiry 3) parked).plx.inputs[3]?.map (fun l => (l.high, l.change))
      = some (some false, false) := by decide +kernel

/-! ## States for the witnesses -/

/-- The part with a reply held, on the line or not, and a reset pending or not. -/
def replying (transmitting resetPending : Bool) : State :=
  { parked with
    slp :=
      { parked.slp with
        port := .replying [0xC3], transmitting := transmitting, resetPending := resetPending } }

/-- The part with a receiver state. -/
def receiving (buffer : List Byte) : State :=
  { parked with slp := { parked.slp with receiver := .inFrame buffer } }

/-- The part in a break state. -/
def inBreak (b : BreakState) : State := { parked with bkm := { parked.bkm with state := b } }

/-- The part with an open scan 12 of a kind, held by the profile builder. -/
def inScan (s : State) (kind : ScanKind) : State :=
  { s with
    gtu := { s.gtu with openScan := some { number := 12, kind := kind } }
    pfb := { s.pfb with contexts := [{ context 12 .gating with kind := kind }] } }

/-- The part in DWELL at a step, three sub-gates taken. -/
def dwelling (step : DwellStep) : State :=
  { inState (.dwell true) with
    gtu := { parked.gtu with subGateTimer := some 0 }
    sdu :=
      { parked.sdu with
        dwell :=
          some
            { step := step, taken := 3, dark := { time := 4000000, bw := 5000, ma := 0, mr := 0, cl := 0 }
              air := { time := 4000000, bw := 48605000, ma := 27000000, mr := 31000000, cl := 4112000 }
              darkShutter := false, satBw := false, satMa := false, satMr := false, satCl := false } } }

/-- The part with a job in the engine. -/
def working (j : Job) (s : State) : State := { s with cve := { s.cve with job := some j } }

/-- A sample job of a record under the plain grade. -/
def sampleJob (r : SampleRecord) (stale : Bool) : Job :=
  .sample { record := r, grade := some plain, refs := refs, stale := stale }

/-- The part in the pass of scan 12 at a step, its chunk in the engine. -/
def inPass (step : PassStep) : State :=
  working (.chunk { scan := 12, step := step, firstZone := 0 })
    { parked with
      pfb :=
        { parked.pfb with
          contexts := [context 12 .inPass]
          pass := some { fullPass with step := step, offered := false }
          reseed := none } }

/-- The part with n records of scan 12 in its sample queue. -/
def queued (n : Nat) (held : Option SampleRecord) : State :=
  { parked with gtu := { parked.gtu with queue := List.replicate n sample, held := held } }

/-- An input line with a setting of role and mode and its levels. -/
def line (role : InputRole) (mode : InputMode) (raw : Bool) (high : Option Bool) : InputLine :=
  { setting := { role := role, mode := mode, polarity := .activeHigh, debounceMs := 10 }
    raw := raw, high := high, timer := 0, change := false }

/-- The part with a first input line. -/
def withLine (l : InputLine) (s : State) : State :=
  { s with plx := { s.plx with inputs := s.plx.inputs.set 0 l } }

/-! ## Witnesses: concrete states and operands that meet the hypotheses of the obligations -/

theorem witness_part_reset :
    (replying true true).slp.transmitting = true ∧ (replying true true).slp.resetPending = true := by
  decide +kernel

theorem witness_frames_not_acted_on :
    (Addressed (frame []) parked ∧ Broadcasts (broadcast []) parked)
      ∧ ((0x7F : Byte).toNat < 0x80 ∧ ∀ k, kindCode k ≠ (0x7F : Byte).toNat)
      ∧ bodyFits .home (frame [1]).body = false
      ∧ (replying false false).slp.port = .replying [0xC3] ∧ kindCode .home = (0x10 : Byte).toNat
      ∧ 0x80 ≤ (0x80 : Byte).toNat
      ∧ ((3 : Byte).toNat ≠ 15 ∧ (3 : Byte).toNat ≠ parked.slp.address) := by
  refine ⟨by decide +kernel, ⟨by decide +kernel, fun k => by cases k <;> decide +kernel⟩, ?_⟩
  decide +kernel

theorem witness_frame_effects_and_reply_span :
    ((replying false false).slp.port = .replying [0xC3] ∧ (replying false false).slp.transmitting = false)
      ∧ ((replying true false).slp.transmitting = true ∧ (replying true false).slp.resetPending = false) := by
  decide +kernel

/-- Every request statement starts from an addressed frame. -/
theorem witness_addressed_bodies :
    (∀ b ∈ [[], [0], [1], [2], [60], [61], [5, 0], [63, 64]], Addressed (frame b) parked)
      ∧ (frame [0, 0, 0, 0, 1]).body = [0, 0, 0, 0, 1]
      ∧ (frame (List.replicate 6 1)).body.length = 6 ∧ (frame (driveBytes .powerOn)).body.length = 8
      ∧ (frame (geometryBytes wide)).body.length = 21
      ∧ (frame (List.replicate 44 0)).body.length = 44
      ∧ (readLineRecord (List.replicate 44 0)).isNone
      ∧ (readLineRecord (((List.replicate 8 [0, 0, 0, 10]).flatten : List Byte) ++ List.replicate 12 0)).isSome := by
  decide +kernel

theorem witness_broadcasts :
    Broadcasts (broadcast [5]) parked ∧ actsOnBroadcast .home = false
      ∧ bodyFits .service (broadcast []).body = false
      ∧ (actsOnBroadcast .service = true ∧ bodyFits .service (broadcast [5]).body = true)
      ∧ (Addressed (frame [5]) parked ∧ (frame [5]).body = (broadcast [5]).body) := by decide +kernel

theorem witness_receiver_takes_good_frame :
    parked.slp.receiver = .hunting ∧ (frame []).body.length ≤ 512
      ∧ ((frameBytes (frame []).address (0x10 : Byte).toNat (frame []).tag []).map fun b => (b, 1000)).map Prod.fst
        = frameBytes (frame []).address (0x10 : Byte).toNat (frame []).tag (frame []).body
      ∧ (∀ c ∈ (frameBytes 4 0x10 7 []).map (fun b => (b, 1000)), c.2 ≤ 1000)
      ∧ (frame (List.replicate 512 0)).body.length ≤ 512 ∧ kindCode .home = (0x10 : Byte).toNat := by
  decide +kernel

theorem witness_receiver_states :
    parked.slp.receiver = .hunting
      ∧ ((receiving []).slp.receiver = .inFrame [] ∧ 1000 < 1001)
      ∧ ([4, 0x10, 7] ++ [(0 : Byte)]).length < 5
      ∧ (5 ≤ ([4, 0x10, 7, 1] ++ [(2 : Byte)]).length
        ∧ 512 < (([4, 0x10, 7, 1] ++ [(2 : Byte)]).getD 3 0).toNat + 256 * (([4, 0x10, 7, 1] ++ [(2 : Byte)]).getD 4 0).toNat)
      ∧ (let b : List Byte := [4, 0x10, 7, 0, 2]
        5 ≤ b.length ∧ (b.getD 3 0).toNat + 256 * (b.getD 4 0).toNat ≤ 512
          ∧ b.length < (b.getD 3 0).toNat + 256 * (b.getD 4 0).toNat + 7)
      ∧ (let b : List Byte := [4, 0x10, 7, 0, 0] ++ crcBytes [4, 0x10, 7, 0, 0]
        b.length = (b.getD 3 0).toNat + 256 * (b.getD 4 0).toNat + 7
          ∧ (crc16 (b.take 5)).toNat = (b.getD 5 0).toNat + 256 * (b.getD 6 0).toNat)
      ∧ (let b : List Byte := [4, 0x10, 7, 0, 0, 0, 0]
        b.length = (b.getD 3 0).toNat + 256 * (b.getD 4 0).toNat + 7
          ∧ (crc16 (b.take 5)).toNat ≠ (b.getD 5 0).toNat + 256 * (b.getD 6 0).toNat) := by
  decide +kernel

theorem witness_record_contents :
    (parked.plx.inputs.length = 8 ∧ parked.plx.outputs.length = 6)
      ∧ (parked.plx.inputs[7]?.isSome ∧ parked.plx.outputs[5]?.isSome)
      ∧ (let x : AlarmEntry :=
          { kind := .overtravel, active := true, acknowledged := false, firstScan := 12, count := 1
            detail := -300 }
        [x][0]? = some x)
      ∧ ([{ scan := 12, slot := some 0 }].filter fun p : Pin => p.slot == some 0)[0]?
          = some { scan := 12, slot := some 0 }
      ∧ (let e (n : Nat) : TrendEntry :=
          { sequence := n, readings := .const .absent, flags := { gate := noFlags, notStd := false } }
        0 < min (min 1 32) [e 1, e 2].length ∧ [e 1, e 2][[e 1, e 2].length - 1 - 0]? = some (e 2))
      ∧ (0 < min 1 (parked.pfb.published.length - 7) ∧ parked.pfb.published[7 + 0]? = some .emptied) := by
  decide +kernel

/-- R187, R192, R193: bytes of some records, an OVERTRAVEL entry with its signed detail among them. -/
theorem test_record_bytes :
    let s := inState (.faulted .overtravel)
    ((statusRecord s).take 9 = [8, 1, 0, 0xFF, 3, 0x1C, 0x25, 0, 0])
      ∧ ((statusRecord s).drop 20).take 4 = [0, 0, 0, 0xFF]
      ∧ alarmsRecord
          [{ kind := .overtravel, active := true, acknowledged := false, firstScan := 12, count := 1
             detail := -300 }]
        = [1, 11, 1, 12, 0, 0, 0, 1, 0xD4, 0xFE, 0xFF, 0xFF] := by decide +kernel

/-- A part in which no event is due, and one whose PWM period starts. -/
theorem witness_timebase :
    (parked.pending = [] ∧ dueEvents parked = [])
      ∧ (let s : State := { parked with trc := { parked.trc with pwmPhase := 50 } }
        s.pending = [] ∧ 50 ≤ s.trc.pwmPhase ∧ dueEvents s = [.pwmPeriodStart]) := by
  decide +kernel

/-- Re-seed clear and set, with a mark after A and one that is not. -/
theorem witness_reseed_marks :
    (inPass .finish).pfb.reseed = none
      ∧ parked.pfb.reseed = some { mark := { scan := 1, order := 1 }, later := none }
      ∧ (1 < ({ scan := 13, order := 13 } : Mark).order ∧ ¬ 1 < ({ scan := 1, order := 1 } : Mark).order) := by
  decide +kernel

theorem witness_grade_requests :
    (∀ n ∈ [7, 8], walkGrade (frame (gradeBytes n plain)).body = some { slot := n, parts := 0, record := plain })
      ∧ plain.inRange = true ∧ { plain with filterShift := 7 }.inRange = false
      ∧ (walkGrade ((gradeBytes 7 plain).set 20 4)).map GradeBody.parts = some 4
      ∧ parked.grs.active = some 0
      ∧ ¬ (parked.grs.active = some 7 ∨ parked.grs.staged = some 7
        ∨ ∃ p ∈ parked.grs.pins, p.slot = some 7) := by decide +kernel

/-- A dwell and none for STOP, both optional parts of a grade record, a line of source MANUAL. -/
theorem witness_added_clauses :
    (Addressed (frame []) (dwelling .air) ∧ (dwelling .air).sdu.dwell.isSome
        ∧ parked.sdu.dwell.isNone)
      ∧ (full.inRange = true ∧ full.moisture = some moisture ∧ full.caliper = some caliper)
      ∧ (∀ o ∈ parked.plx.outputs, o.setting.source = .manual) := by decide +kernel

theorem witness_parked_tests :
    (inBreak (.waiting (.running 0))).bkm.state = .waiting (.running 0) ∧ parked.bkm.state = .clear
      ∧ ((inState .stopped).trc.state ≠ .parked ∧ (inState .stopped).bkm.state ≠ .probing)
      ∧ (let s : State := { parked with sdu := { parked.sdu with wanted := true } }
        s.trc.state = .parked ∧ s.bkm.state ≠ .probing ∧ dwellReady s = true)
      ∧ (∀ b ∈ [BreakState.broken, .waiting .notStarted, .waiting (.running 5), .waiting .expired],
          (inBreak b).trc.state = .parked ∧ dwellReady (inBreak b) = false ∧ (inBreak b).bkm.state = b
            ∧ (inBreak b).bkm.levelCondition = false)
      ∧ (let s : State := { inBreak .broken with bkm := { (inBreak .broken).bkm with levelCondition := true } }
        s.trc.state = .parked ∧ dwellReady s = false ∧ s.bkm.state = .broken ∧ s.bkm.levelCondition = true)
      ∧ (let s := { scanningAt 9999 .fwd .turn 0 with bkm := (inBreak .probing).bkm }
        s.bkm.state = .probing ∧ isScanning s.trc.state = true)
      ∧ (let s := inScan (inBreak .probing) .probe
        s.bkm.state = .probing ∧ ∃ c ∈ s.pfb.contexts, c.kind = .probe)
      ∧ ((inBreak .probing).bkm.state = .probing ∧ isScanning (inBreak .probing).trc.state = false
        ∧ (inBreak .probing).slp.resetPending = false
        ∧ ∀ c ∈ (inBreak .probing).pfb.contexts, c.kind ≠ .probe) := by decide +kernel

theorem witness_orders_and_aborts :
    ({ parked with slp := { parked.slp with silence := some 0 } } : State).slp.silence = some 0
      ∧ parked.slp.resetPending = false ∧ parked.gtu.openScan = none
      ∧ (let s : State := { inScan (scanningAt 10100 .fwd .inWindow 5) .normal with
          bkm := { parked.bkm with watch := .scan 12 none } }
        s.gtu.openScan = some { number := 12, kind := .normal } ∧ s.bkm.watch = .scan 12 none)
      ∧ parked.bkm.watch = .off := by
  decide +kernel

theorem witness_speed_loop_run :
    loopRuns parked.trc.state = false ∧ isScanning (scanningAt 10100 .fwd .inWindow 5).trc.state = true
      ∧ isPoint (inState (.point 10100 50)).trc.state = true
      ∧ (inState (.homing .seekClear)).trc.state = .homing .seekClear
      ∧ (inState .halting).trc.state = .halting
      ∧ ((inState (.transit .park .scan)).gtu.geometry = some narrow
        ∧ (inState (.transit .park .scan)).trc.state = .transit .park .scan)
      ∧ ((inState (.homing (.toPark true))).gtu.geometry = some narrow
        ∧ (inState (.homing (.toPark true))).trc.state = .homing (.toPark true))
      ∧ (inState (.homing (.toPark false))).trc.state = .homing (.toPark false) := by decide +kernel

theorem witness_fault_and_bridge_events :
    isFaulted (inState (.faulted .overtravel)).trc.state = true
      ∧ (let s (n : Nat) : State := { parked with trc := { parked.trc with tripCount := n } }
        isFaulted (s 6).trc.state = false ∧ (s 6).trc.tripCount < 7 ∧ (s 7).trc.tripCount = 7)
      ∧ loopRuns (inState .halting).trc.state = true
      ∧ isHoming (inState (.homing .seekHome)).trc.state = true
      ∧ (inScan (scanningAt 10100 .fwd .inWindow 5) .normal).gtu.openScan = some { number := 12, kind := .normal } := by
  decide +kernel

theorem witness_setpoints :
    (∀ t ∈ [TraverseState.halting, .point 10100 50, .transit .park .noAction, .homing .seekClear
        , .homing .seekHome, .homing (.toPark false), .homing (.toPark true)],
        (inState t).trc.state = t ∧ (inState t).gtu.geometry = some narrow)
      ∧ (let s := scanningAt 10100 .rev .turn 24
        s.trc.state = .scanning .rev .turn false false ∧ activeGrade s = some plain) := by decide +kernel

theorem witness_frame_switches : ∀ sw, (parked.trc.switch sw).timer.isSome := by
  intro sw
  cases sw <;> decide +kernel

theorem witness_encoder_edges :
    (let s : State := { scanningAt 10698 .fwd .turn 0 with gtu := parked.gtu }
     (¬ ∃ g c, s.gtu.geometry = some g ∧ s.gtu.comparator = some c ∧
        (match c.direction with
        | .fwd => ((g.W0 + c.target * (g.W1 - g.W0) / (g.Z * g.S) : Nat) : Int) ≤ 10699
        | .rev => (10699 : Int) ≤ ((g.W0 + c.target * (g.W1 - g.W0) / (g.Z * g.S) : Nat) : Int)))
      ∧ ¬ ∃ g a p, s.gtu.geometry = some g ∧
        ((s.trc.state = .scanning .fwd .turn a p ∧ (g.W1 : Int) + (g.U / 2 : Nat) ≤ 10699)
          ∨ (s.trc.state = .scanning .rev .turn a p ∧ (10699 : Int) ≤ (g.W0 : Int) - (g.U / 2 : Nat))))
      ∧ (let s : State := { scanningAt 10699 .fwd .turn 0 with gtu := parked.gtu }
        s.gtu.geometry = some narrow ∧ s.gtu.comparator = none
          ∧ s.trc.state = .scanning .fwd .turn false false
          ∧ (narrow.W1 : Int) + (narrow.U / 2 : Nat) ≤ s.trc.position + 1)
      ∧ (let s : State := { scanningAt 9801 .rev .turn 0 with gtu := parked.gtu }
        s.gtu.geometry = some narrow ∧ s.gtu.comparator = none
          ∧ s.trc.state = .scanning .rev .turn false false
          ∧ s.trc.position - 1 ≤ (narrow.W0 : Int) - (narrow.U / 2 : Nat)) := by
  refine ⟨⟨?_, ?_⟩, by decide +kernel, by decide +kernel⟩
  · rintro ⟨g, c, -, hc, -⟩
    cases hc
  · rintro ⟨g, a, p, hg, h⟩
    obtain rfl : narrow = g := Option.some.inj hg
    rcases h with ⟨-, h⟩ | ⟨h, -⟩
    · exact absurd h (by decide +kernel)
    · cases h

theorem witness_boundary_match :
    (let s := inScan (scanningAt 10019 .fwd .inWindow 1) .normal
     s.gtu.geometry = some narrow ∧ s.trc.state = .scanning .fwd .inWindow false false
        ∧ s.gtu.comparator = some { direction := .fwd, target := 1 }
        ∧ s.gtu.openScan = some { number := 12, kind := .normal } ∧ 1 ≠ narrow.Z * narrow.S
        ∧ ((narrow.W0 + 1 * (narrow.W1 - narrow.W0) / (narrow.Z * narrow.S) : Nat) : Int) ≤ s.trc.position + 1)
      ∧ (let s := inScan (scanningAt 10480 .rev .inWindow 23) .skipped
        s.gtu.comparator = some { direction := .rev, target := 23 }
          ∧ s.gtu.openScan = some { number := 12, kind := .skipped } ∧ 23 ≠ narrow.Z * narrow.S
          ∧ s.trc.position - 1 ≤ ((narrow.W0 + 23 * (narrow.W1 - narrow.W0) / (narrow.Z * narrow.S) : Nat) : Int)) := by
  decide +kernel

theorem witness_scan_start :
    (let s := scanningAt 9999 .fwd .turn 0
     s.gtu.geometry = some narrow ∧ s.trc.state = .scanning .fwd .turn false false
        ∧ narrow.inRange = true ∧ s.gtu.comparator = some { direction := .fwd, target := 0 }
        ∧ (narrow.W0 : Int) ≤ s.trc.position + 1)
      ∧ (let s := scanningAt 10501 .rev .turn 24
        s.gtu.comparator = some { direction := .rev, target := narrow.Z * narrow.S }
          ∧ s.trc.position - 1 ≤ (narrow.W1 : Int))
      ∧ (let s := scanningAt 9999 .fwd .turn 0
        s.bkm.state = .clear ∧ gradeAt s s.grs.active = some plain
          ∧ ({ s.pfb with publishedEdges := some (1, 6) } : ProfileBuilder).publishedEdges = some (1, 6)
          ∧ 1 + 2 * plain.edgeGuard ≤ 6) := by decide +kernel

theorem witness_scan_end :
    (let s := inScan (scanningAt 10499 .fwd .inWindow 24) .normal
     s.gtu.geometry = some narrow ∧ s.trc.state = .scanning .fwd .inWindow false false
        ∧ narrow.inRange = true
        ∧ s.gtu.comparator = some { direction := .fwd, target := narrow.Z * narrow.S }
        ∧ s.gtu.openScan = some { number := 12, kind := .normal }
        ∧ (narrow.W1 : Int) ≤ s.trc.position + 1 ∧ s.trc.position + 1 < narrow.W1 + (narrow.U / 2 : Nat)
        ∧ s.gtu.queue.length < 8 ∧ ∀ c ∈ s.pfb.contexts, c.number = 12 → c.kind ≠ .skipped)
      ∧ (∀ held ∈ [none, some sample],
          let s := inScan (scanningAt 10499 .fwd .inWindow 24) .normal
          let f : State := { s with
            gtu := { s.gtu with queue := List.replicate 8 sample, held := held } }
          f.gtu.queue.length = 8 ∧ f.gtu.openScan = some { number := 12, kind := .normal }
            ∧ ∀ c ∈ f.pfb.contexts, c.number = 12 → c.kind ≠ .skipped)
      ∧ (let s := inScan (scanningAt 10001 .rev .inWindow 0) .skipped
        s.gtu.comparator = some { direction := .rev, target := 0 }
          ∧ s.gtu.openScan = some { number := 12, kind := .skipped }
          ∧ s.trc.position - 1 ≤ (narrow.W0 : Int) ∧ (narrow.W0 : Int) - (narrow.U / 2 : Nat) < s.trc.position - 1
          ∧ (∃ c ∈ s.pfb.contexts, c.number = 12)
          ∧ ∀ c ∈ s.pfb.contexts, c.number = 12 → c.kind = .skipped) := by decide +kernel

/-- R37, R41, R43: with eight records queued and one held, the last record of a scan displaces the held one and the scan is ENDED. -/
theorem test_scan_end_full_queue :
    let s := inScan (scanningAt 10499 .fwd .inWindow 24) .normal
    let t := after (.encoderEdge true) { s with
      gtu := { s.gtu with queue := List.replicate 8 sample, held := some sample, gateTimer := 5000 }
      cve := { s.cve with job := some (.chunk { scan := 1, step := .edges, firstZone := 0 }) } }
    (t.gtu.queue.length, t.gtu.held.map fun r => (r.slot, r.gateTime)) = (8, some (some 23, 5000))
      ∧ t.pfb.contexts.map ScanContext.stage = [.ended]
      ∧ (t.pfb.acc0[5]?.map SlotEntry.missed) = some true := by decide +kernel

/-- R44, R78, R145: a declaration in the window releases the pin and closes the open scan; the held record joins the queue. -/
theorem test_declaration_releases_scan :
    let s := inScan (scanningAt 10100 .fwd .inWindow 5) .normal
    let point : SampleRecord := { sample with kind := .point, slot := none, direction := none }
    let t := inputCause 3 { s with
      gtu := { s.gtu with queue := List.replicate 8 sample, held := some point }
      grs := { s.grs with pins := [{ scan := 12, slot := some 0 }] } }
    (t.grs.pins, t.gtu.openScan, t.gtu.comparator, t.gtu.queue, t.gtu.held)
      = ([], none, none, [point], none) := by decide +kernel

theorem witness_pulses_and_point_gates :
    let s : State :=
      { inState (.point 10100 50) with
        gtu := { parked.gtu with pointTimer := some 0, pointSequence := 4294967294 } }
    (s.trc.state = .point 10100 50 ∧ s.gtu.pointTimer.isSome ∧ s.gtu.pointSequence < 4294967295)
      ∧ (s.gtu.counters.bwc ≤ 16777215 ∧ s.gtu.counters.mac ≤ 16777215
        ∧ s.gtu.counters.mrc ≤ 16777215 ∧ s.gtu.counters.clc ≤ 16777215)
      ∧ ({ parked.gtu with counters := { Counts.zero with mrc := 16777215 } } : GateUnit).counters.mrc
        ≤ 16777215 := by
  decide +kernel

/-- A pass that runs, no scan ended, and an ended scan of which no record and no job remains behind one that gates. -/
theorem witness_scan_completion :
    (inPass .assembly).pfb.pass.isSome
      ∧ (parked.pfb.pass = none ∧ ∀ c ∈ parked.pfb.contexts, c.stage ≠ .complete)
      ∧ (let s : State := { parked with
          pfb := { parked.pfb with contexts := [context 11 .gating, context 12 .ended] } }
        s.pfb.pass = none
          ∧ (completeScans (gateNotices s)).pfb.contexts
            = [context 11 .gating] ++ { context 12 .complete with gateNotice := true } :: []
          ∧ (context 11 .gating).stage ≠ .complete ∧ s.gtu.queue = [] ∧ s.gtu.held = none
          ∧ s.cve.job = none) := by decide +kernel

/-- R43, R45, R95: a POINT gate's overrun displaces the last record of an ended scan, which is COMPLETE and in its pass in the same event. -/
theorem test_point_overrun_completes_scan :
    let point : SampleRecord := { sample with kind := .point, slot := none, direction := none }
    let s : State := { inState (.point 10100 50) with
      gtu :=
        { parked.gtu with
          queue := List.replicate 8 point, held := some sample, pointTimer := some 50000 }
      cve := { parked.cve with job := some (.chunk { scan := 1, step := .edges, firstZone := 0 }) }
      pfb := { parked.pfb with contexts := [context 12 .ended] } }
    ((after .pointTimerExpiry s).pfb.contexts.map ScanContext.stage,
      (after .pointTimerExpiry s).pfb.pass.map PassRecord.scan) = ([.inPass], some 12) := by decide +kernel

/-- R141: after CLEAR_PROFILES in POINT a POINT result below the break threshold is still counted. -/
theorem test_point_result_after_clear :
    let point : SampleRecord := { sample with kind := .point, slot := none, direction := none }
    let s := after (.clearProfiles (frame [])) { inState (.point 10100 50) with
      bkm := { parked.bkm with watch := .point, runCount := 2 } }
    (s.bkm.watch, s.bkm.runCount) = (.off, 0)
      ∧ (watchPointResult point (.valid 999 false) s).bkm.runCount = 1 := by decide +kernel

theorem witness_record_placement :
    (queued 7 none).gtu.queue.length < 8
      ∧ (8 ≤ (queued 8 none).gtu.queue.length ∧ (queued 8 none).gtu.held = none)
      ∧ (let old : SampleRecord := { sample with kind := .point, slot := none, direction := none }
        8 ≤ (queued 8 (some old)).gtu.queue.length ∧ (queued 8 (some old)).gtu.held = some old
          ∧ old.kind = .point)
      ∧ (let s : State := { queued 8 (some sample) with
          pfb := { parked.pfb with contexts := [context 12 .gating] } }
        8 ≤ s.gtu.queue.length ∧ s.gtu.held = some sample ∧ sample.kind ≠ .point
          ∧ sample.slot = some 5 ∧ contextOf s sample.number = some (context 12 .gating)
          ∧ (context 12 .gating).accumulator = some .acc0 ∧ s.gtu.geometry = some narrow) := by
  decide +kernel

theorem witness_dwell_sub_gates :
    ∀ step ∈ [DwellStep.dark, .air], (dwelling step).sdu.dwell.isSome
      ∧ (dwelling step).gtu.subGateTimer.isSome
      ∧ (dwelling step).sdu.dwell.map DwellRecord.step = some step := by decide +kernel

theorem witness_arbiter_choice :
    (working (sampleJob sample false) parked).cve.job ≠ none
      ∧ parked.cve.job = none
      ∧ (let z : PhaseSums := { time := 1, bw := 0, ma := 0, mr := 0, cl := 0 }
        ({ parked with sdu := { parked.sdu with posted := some (z, z) } } : State).sdu.posted = some (z, z))
      ∧ ((queued 8 none).cve.job = none ∧ (queued 8 none).sdu.posted = none
        ∧ (queued 8 none).gtu.queue = sample :: List.replicate 7 sample
        ∧ (queued 8 none).pfb.pass.filter PassRecord.offered = none
        ∧ (queued 8 none).cve.lastServed = .pass ∧ (List.replicate 7 sample).length < 8)
      ∧ (let s : State := { parked with pfb := { parked.pfb with pass := some (.fresh 12) } }
        s.cve.job = none ∧ s.sdu.posted = none
          ∧ s.pfb.pass.filter PassRecord.offered = some (.fresh 12) ∧ s.gtu.queue = [])
      ∧ (let s : State := { queued 1 none with
          pfb := { parked.pfb with pass := some (.fresh 12) }
          cve := { job := none, lastServed := .sample } }
        s.pfb.pass.filter PassRecord.offered = some (.fresh 12) ∧ s.cve.lastServed = .sample)
      ∧ (parked.sdu.posted = none ∧ parked.gtu.queue = []
        ∧ parked.pfb.pass.filter PassRecord.offered = none) := by decide +kernel

theorem witness_sample_jobs :
    let point : SampleRecord := { sample with kind := .point, slot := none, direction := none }
    let entry : TrendEntry :=
      { sequence := 1, readings := .const .empty, flags := { gate := noFlags, notStd := false } }
    (working (sampleJob point true) parked).cve.job = some (sampleJob point true)
      ∧ (let s : State := { working (sampleJob point false) parked with
          pfb := { parked.pfb with trend := List.replicate 64 entry } }
        s.cve.job = some (sampleJob point false) ∧ s.pfb.trend.length ≤ 64)
      ∧ (sample.kind ≠ .point ∧ contextOf (working (sampleJob sample false) parked) sample.number = none)
      ∧ (let s : State := { working (sampleJob sample false) parked with
          pfb := { parked.pfb with contexts := [context 12 .ended] } }
        s.cve.job = some (sampleJob sample false) ∧ contextOf s sample.number = some (context 12 .ended)
          ∧ (context 12 .ended).accumulator = some .acc0 ∧ sample.slot = some 5) := by decide +kernel

theorem witness_slot_conversion :
    (plain.moisture = none ∧ ({ refs with q0 := 0 } : References).q0 = 0)
      ∧ (plain.caliper = none ∧ ({ refs with f0 := 0 } : References).f0 = 0)
      ∧ ({ noFlags with longGate := true }.shortGate || { noFlags with longGate := true }.longGate) = true
      ∧ (full.moisture = some moisture ∧ refs.q0 ≠ 0) ∧ (full.caliper = some caliper ∧ refs.f0 ≠ 0)
      ∧ (sample.flags.shortGate || sample.flags.longGate || sample.flags.shutterUnconfirmed) = false
      ∧ (sample.flags.satBw = false ∧ refs.r0 ≠ 0)
      ∧ (sample.flags.satMa = false ∧ sample.flags.satMr = false ∧ sample.counts.mrc ≠ 0)
      ∧ (convertUnder full sample refs).bw = .valid 6919 false
      ∧ (moisture.floor ≤ 6919 ∧ 6919 < { moisture with floor := 6920 }.floor)
      ∧ (convertUnder full sample { refs with r0 := 0 }).bw = .invalid
      ∧ sample.flags.satCl = false := by decide +kernel

theorem witness_assembly_and_edges :
    channelLacking plain .moi = true
      ∧ (fullScan.take 3 ≠ [] ∧ ∀ e ∈ fullScan.take 3, e.readings.get .moi = .absent)
      ∧ (assembleChannel plain ((fullScan.drop 6).take 3) .bw = .valid 6920
        ∧ assembleChannel plain ((fullScan.drop 9).take 3) .bw = .invalid)
      ∧ (fullPass.zones[1]?.map fun z => z.readings.bw) = some (.valid 6887)
      ∧ (fullPass.zones[6]?.map fun z => z.readings.bw) = some (.valid 6863)
      ∧ fullPass.zones.all (fun z => zoneOnSheet 65535 z == false) = true := by decide +kernel

theorem witness_table_lookup :
    ((10 : Int) ≠ 0 ∧ 0 < (15 : Int) * 10 ∧ (-15 : Int) * 10 < 0)
      ∧ tableValid caliper = true ∧ tableValid bwTable = true
      ∧ (caliper[1]? = some (20000, 500) ∧ caliper[2]? = some (40000, 1050) ∧ 20000 ≤ 36000 ∧ 36000 ≤ 40000
        ∧ ∀ j < 1, ∀ a ∈ caliper[j]?, ∀ b ∈ caliper[j + 1]?,
          ¬ (a.1 ≤ 36000 ∧ 36000 ≤ b.1 ∨ b.1 ≤ 36000 ∧ 36000 ≤ a.1))
      ∧ (bwTable[0]? = some (65535, 0) ∧ bwTable[1]? = some (52000, 4000) ∧ 52000 < 65535 ∧ 65535 < 65536)
      ∧ (bwTable.getLast? = some (20000, 21000) ∧ 15000 < 20000)
      ∧ (caliper[0]? = some (0, 0) ∧ caliper.getLast? = some (60000, 1650) ∧ 0 < 20000 ∧ 60000 < 60001) := by
  decide +kernel

theorem witness_statistics :
    [(6920, 2), (6997, 4)] ≠ ([] : List (Nat × Nat))
      ∧ ([(6920, 2), (6997, 4)].map Prod.snd).Pairwise (· < ·)
      ∧ 0 < ((stepC plain narrow fullPass).sums.get .bw).n
      ∧ ((fullPass.sums.get .moi).n = 0 ∧ ∀ z ∈ fullPass.zones, z.readings.get .moi = .absent)
      ∧ ((fullPass.sums.get .bw).n = 0 ∧ ¬ ∀ z ∈ fullPass.zones, z.readings.get .bw = .absent) := by
  decide +kernel

/-- R105: the scan alarm conditions of "A full scan, worked" (05): BW 6959 is within 150 of 6900, its 2σ of 76 within 300, and zone 5 is a hole. -/
theorem test_scan_conditions :
    scanConditions plain (stepC plain narrow fullPass)
        = [(.bwDeviation, none), (.moiDeviation, none), (.bwSpread, none), (.edgeHole, some 5)]
      ∧ ((scanConditions { plain with bwBand := 58, spreadLimit := 75 } (stepC plain narrow fullPass)).map
          Prod.snd) = [some 6959, none, some 76, some 5] := by decide +kernel

theorem witness_profile_filter :
    (1 ≤ 1 ∧ 1 ≤ 6 ∧ 1 ≤ 6 ∧ 6 ≤ 6 ∧ (0 : Int) ≤ 39 ∧ (-11 : Int) ≤ 0)
      ∧ (fullPass.edges.span = some (1, 6) ∧ 1 ≤ 1 ∧ 6 ≤ 6 ∧ fullPass.reseeded = false)
      ∧ ¬ ∃ x ∈ fullPass.edges.span, x.1 ≤ 0 ∧ 0 ≤ x.2 := by decide +kernel

theorem witness_pass_chunks :
    (∀ step ∈ [PassStep.assembly, .edges, .statistics, .filter, .finish],
        (inPass step).cve.job = some (.chunk { scan := 12, step := step, firstZone := 0 })
          ∧ ((inPass step).pfb.pass.map fun p => (p.scan, p.step)) = some (12, step)
          ∧ contextOf (inPass step) 12 = some (context 12 .inPass)
          ∧ (inPass step).gtu.geometry = some narrow
          ∧ gradeAt (inPass step) (context 12 .inPass).slot = some plain)
      ∧ (context 12 .inPass).kind ≠ .probe ∧ min plain.minSheetZones narrow.Z ≤ (stepB plain fullPass).edges.width
      ∧ (stepB plain { fullPass with zones := [] }).edges.width < min plain.minSheetZones narrow.Z
      ∧ ({ context 12 .inPass with kind := .probe } : ScanContext).kind = .probe
      ∧ (working (.chunk { scan := 12, step := .edges, firstZone := 0 }) parked).pfb.pass = none
      ∧ ((inPass .finish).pfb.summaries.length ≤ 4
        ∧ ({ fullPass with reseeded := true } : PassRecord).reseeded = true) := by decide +kernel

theorem witness_break_declaration :
    parked.bkm.cause = none
      ∧ (let s := inScan (scanningAt 10100 .fwd .inWindow 5) .normal
        isScanning s.trc.state = true ∧ s.gtu.openScan.isSome ∧ s.gtu.comparator.isSome)
      ∧ (let cause : BreakCause :=
          { kind := .input, origin := .noOrigin, scan := 12, position := 0, zone := none, detail := 1
            gradeCode := none }
        ({ parked with bkm := { parked.bkm with cause := some cause } } : State).bkm.cause = some cause) := by
  decide +kernel

theorem witness_break_causes :
    (inBreak .probing).bkm.state ≠ .broken ∧ (inBreak .broken).bkm.state = .broken
      ∧ parked.bkm.state = .clear ∧ (inBreak .probing).bkm.state = .probing
      ∧ (let s := withLine (line .machineRun .level false (some false)) parked
        (∃ l ∈ s.plx.inputs, l.setting.role = .machineRun)
          ∧ ∀ l ∈ s.plx.inputs, l.setting.role = .machineRun → lineActive l = false)
      ∧ ¬ ((∃ l ∈ parked.plx.inputs, l.setting.role = .machineRun)
        ∧ ∀ l ∈ parked.plx.inputs, l.setting.role = .machineRun → lineActive l = false)
      ∧ (plain.breakThreshold ≤ 1000 ∧ 999 < plain.breakThreshold)
      ∧ (4 ≤ 4 ∧ 3 < 4) := by decide +kernel

/-- A scan watched over zones 1 to 5, with slots 3 to 17, records at its ends and beside them, and POINT results. -/
theorem witness_watch_results :
    let s : State := { inScan (inState .parked) .normal with
      bkm := { parked.bkm with watch := .scan 12 (some (1, 5)) } }
    (sample.kind = .scan ∧ sample.slot = some 5 ∧ contextOf s sample.number = some (context 12 .gating)
        ∧ gradeAt s (context 12 .gating).slot = some plain ∧ s.gtu.geometry = some narrow
        ∧ s.bkm.state = .clear ∧ s.bkm.watch = .scan sample.number (some (1, 5)))
      ∧ (∀ slot ∈ [3, 17], 1 * narrow.S ≤ slot ∧ slot ≤ 5 * narrow.S + (narrow.S - 1))
      ∧ (∀ slot ∈ [2, 18], ¬ (1 * narrow.S ≤ slot ∧ slot ≤ 5 * narrow.S + (narrow.S - 1)))
      ∧ ({ sample with kind := .probe } : SampleRecord).kind = .probe
      ∧ (({ sample with kind := .point } : SampleRecord).kind = .point
        ∧ (inState (.point 10100 50)).trc.state = .point 10100 50
        ∧ (inState (.point 10100 50)).bkm.state = .clear
        ∧ activeGrade (inState (.point 10100 50)) = some plain
        ∧ isPoint parked.trc.state = false) := by decide +kernel

theorem witness_standardize_evaluation :
    let e (stale : Bool) : Machine.Evaluation :=
      { dark := { time := 4000000, bw := 5000, ma := 0, mr := 0, cl := 0 }
        air := { time := 4000000, bw := 48605000, ma := 27000000, mr := 31000000, cl := 4112000 }
        stale := stale }
    ((working (.evaluation (e true)) parked).cve.job = some (.evaluation (e true)) ∧ (e true).stale = true
        ∧ parked.sdu.dwell = none)
      ∧ (let s := working (.evaluation (e false)) (dwelling .evaluating)
        s.cve.job = some (.evaluation (e false)) ∧ (e false).stale = false ∧ s.sdu.dwell.isSome
          ∧ s.trc.state = .dwell true)
      ∧ ([judgeCandidate 12000000 50 12150000, judgeCandidate 14000 50 14270
          , judgeCandidate 1000000 50 1028000].all fun r => r == .adopted || r == .first) = true := by
  decide +kernel

theorem witness_shutter_unit :
    (let w (s : State) : Bool :=
        s.plx.interlock
          && (isScanning s.trc.state || isPoint s.trc.state || (isDwell s.trc.state && dwellPhaseAir s))
     w parked = parked.sdu.shutterOpen
        ∧ (let s := scanningAt 9999 .fwd .turn 0
          w s ≠ s.sdu.shutterOpen ∧ s.sdu.confirm.level ≠ w s)
        ∧ (let s : State := { scanningAt 9999 .fwd .turn 0 with
            sdu := { parked.sdu with confirm := .fresh true } }
          w s ≠ s.sdu.shutterOpen ∧ s.sdu.confirm.level = w s))
      ∧ parked.sdu.confirm.timer.isSome
      ∧ ((dwelling .opening).sdu.dwell.map DwellRecord.step = some .opening
        ∧ ({ (dwelling .opening).sdu with shutterOpen := true } : Standardize).shutterOpen = true)
      ∧ (let s : State := { parked with sdu := { parked.sdu with shutterOpen := true } }
        s.sdu.supervision = .settling ∧ s.sdu.confirm.level ≠ s.sdu.shutterOpen) := by decide +kernel

/-- R136, R148: a shutter failure in a DWELL with the recovery delay EXPIRED: the command closes at the return to PARKED and opens for the probe, so the supervision is SETTLING with a new window. -/
theorem test_shutter_failure_before_probe :
    let s : State := { dwelling .air with
      sdu := { (dwelling .air).sdu with shutterOpen := true, supervision := .settling, window := 500000 }
      bkm := { parked.bkm with state := .waiting .expired } }
    let t := after .shutterWindowExpiry s
    (t.sdu.supervision, t.sdu.window, t.sdu.shutterOpen, t.bkm.state) = (.settling, 0, true, .probing)
      ∧ isScanning t.trc.state = true ∧ t.sdu.dwell.isNone := by decide +kernel

theorem witness_input_lines :
    (∀ high ∈ [none, some true, some false],
        (withLine (line .break .level true high) parked).plx.inputs[(0 : Fin 8).val]?
          = some (line .break .level true high))
      ∧ ((line .break .level true (some true)).high = some (line .break .level true (some true)).raw
        ∧ (line .break .level true none).high = none
        ∧ (line .break .level true (some false)).high = some (!(line .break .level true (some false)).raw))
      ∧ (let lost := withLine (line .interlock .level false (some false)) parked
        let held (s : State) : Bool := s.plx.inputs.all fun x => x.setting.role != .interlock || lineActive x
        lost.plx.interlock = true ∧ held lost = false
          ∧ (let s : State := { parked with plx := { parked.plx with interlock := false } }
            s.plx.interlock = false ∧ held s = true)
          ∧ parked.plx.interlock = held parked)
      ∧ (let isLevel (x : InputLine) : Bool :=
          x.setting.role == .break && x.setting.mode == .level && lineActive x
        let s := withLine (line .break .level true (some true)) parked
        s.bkm.levelCondition = false ∧ s.plx.inputs.any isLevel = true
          ∧ parked.bkm.levelCondition = parked.plx.inputs.any isLevel
          ∧ (let off : State := { parked with bkm := { parked.bkm with levelCondition := true } }
            off.bkm.levelCondition = true ∧ off.plx.inputs.any isLevel = false)) := by decide +kernel

/-- A line that is due, at its debounce time; one a microsecond short of it, and one whose level is taken. -/
theorem witness_due_lines :
    let l (timer : Nat) (high : Option Bool) : InputLine :=
      { line .break .level true high with timer := timer }
    (∀ high ∈ [none, some false],
        (withLine (l 10000 high) parked).plx.inputs[(0 : Fin 8).val]? = some (l 10000 high)
          ∧ (l 10000 high).high ≠ some (l 10000 high).raw
          ∧ (l 10000 high).setting.debounceMs * 1000 ≤ (l 10000 high).timer
          ∧ (l 9999 high).timer < (l 9999 high).setting.debounceMs * 1000)
      ∧ (l 10000 (some true)).high = some (l 10000 (some true)).raw := by decide +kernel

/-- A POINT sample job in the engine, and a job of another kind. -/
theorem witness_stale_point_job :
    let point : SampleRecord := { sample with kind := .point, slot := none, direction := none }
    (working (sampleJob point false) parked).cve.job = some (sampleJob point false)
      ∧ point.kind = .point
      ∧ (working (sampleJob sample false) parked).cve.job = some (sampleJob sample false)
      ∧ sample.kind ≠ .point ∧ parked.cve.job = none := by decide +kernel

/-- PROBING while a reset is pending. -/
theorem witness_pending_reset :
    let s : State := { replying true true with bkm := (inBreak .probing).bkm }
    s.bkm.state = .probing ∧ s.slp.resetPending = true ∧ s.trc.state = .parked := by decide +kernel

/-- Positions at the boundaries 0, 3, 4, 23 and 24 of the narrow geometry, and beside them. -/
theorem witness_zones :
    let b (j : Nat) : Nat := narrow.W0 + j * (narrow.W1 - narrow.W0) / (narrow.Z * narrow.S)
    narrow.inRange = true
      ∧ (∀ x ∈ [(10000, 0), (10019, 0), (10061, 2), (10062, 3), (10082, 3), (10083, 4), (10479, 23), (10499, 23)],
          x.2 < narrow.Z * narrow.S ∧ b x.2 ≤ x.1 ∧ x.1 < b (x.2 + 1))
      ∧ b (narrow.Z * narrow.S) = narrow.W1 := by decide +kernel

/-- R145, R33: the zones of those positions and of the ends of the window; none beyond them. -/
theorem test_zones :
    ([10000, 10061, 10062, 10479, 10500].map narrow.zoneAt) = [0, 0, 1, 7, 7]
      ∧ ([9999, 10000, 10500, 10501].map fun p =>
          headZone { parked with trc := { parked.trc with position := p } })
        = [none, some 0, some 7, none] := by decide +kernel

/-- A state with a command in its queue that meets every invariant. -/
def waiting : State := { parked with pending := [.currentTrip] }

theorem witness_invariants :
    QueuesBounded waiting ∧ TraverseSound waiting ∧ ShutterFollows waiting ∧ AlarmsSound waiting
      ∧ RecordsSound waiting ∧ BreakKeepsProfile waiting ∧ ∃ t, step waiting = .next t := by
  refine ⟨by decide +kernel, by decide +kernel, by decide +kernel, by decide +kernel, ?_, ?_, _, rfl⟩
  · refine ⟨by decide +kernel, fun g hg => ?_, by decide +kernel, fun r hr => ?_, fun n hn => ?_
      , fun n hn => ?_, by decide +kernel, by decide +kernel, by decide +kernel, by decide +kernel⟩
    · obtain rfl : narrow = g := Option.some.inj hg
      decide +kernel
    · rcases List.mem_cons.1 hr with h | h
      · obtain rfl := Option.some.inj h
        decide +kernel
      · cases List.eq_of_mem_replicate h
    · obtain rfl : 0 = n := Option.some.inj hn
      decide +kernel
    · cases hn
  · exact ⟨fun h => absurd rfl h, fun _ => rfl⟩

theorem witness_only_power_on_loses :
    (∀ p, Instr.currentTrip ≠ .powerOnReset p) ∧ (∃ t, exec .currentTrip parked = .next t)
      ∧ (parked.sdu.refs.r0 ≠ 0 ∧ parked.sdu.refs.q0 ≠ 0 ∧ parked.sdu.refs.f0 ≠ 0)
      ∧ (let cause : BreakCause :=
          { kind := .input, origin := .noOrigin, scan := 12, position := 0, zone := none, detail := 1
            gradeCode := none }
        let s : State := { inBreak .broken with bkm := { (inBreak .broken).bkm with cause := some cause } }
        s.bkm.state ≠ .clear ∧ s.bkm.cause = some cause)
      ∧ slotInUse parked 0 = true ∧ (replying false false).slp.port = .replying [0xC3] :=
  ⟨fun _ h => Instr.noConfusion h, ⟨_, rfl⟩, by decide +kernel⟩

theorem witness_records_read_back :
    (255 ≤ 255 ∧ GradeRecord.inRange full = true ∧ GradeRecord.inRange plain = true)
      ∧ (wide.inRange = true ∧ narrow.inRange = true) ∧ DriveRecord.powerOn.inRange = true
      ∧ StdSettings.powerOn.inRange = true := by decide +kernel

end Sys2Proof.Machine.Slice0
end

/-! PROOFS. The requests of the traverse controller (01): HOME, PARK, STOP, CLEAR_FAULT and SET_DRIVE, each from what its owner answers and the lemma that says how an addressed request is answered. -/

namespace Sys2Proof.Machine

/-! ## Addressed requests -/

/-- The reply an owner's answer leaves (R181), in the words of the statements. -/
def Answer.reply (k : ReqKind) (f : Frame) (a : Answer) : State :=
  replied (kindCode k) f a.code a.record a.state

@[simp] theorem reply_refuse (k : ReqKind) (f : Frame) (code : ReplyCode) (s : State) :
    (refuse code s).reply k f = replied (kindCode k) f code [] s := rfl

@[simp] theorem reply_plain (k : ReqKind) (f : Frame) (code : ReplyCode) (s : State) :
    (plain code s).reply k f = replied (kindCode k) f code [] s := rfl

/-- R181: the reply built at the port is the one the statements write out. -/
theorem holdReply_eq_reply (k : ReqKind) (f : Frame) (a : Answer) :
    holdReply (kindCode k) f.tag a = a.reply k f := rfl

@[simp] theorem frameTaken_interlock (s : State) :
    (frameTaken s).plx.interlock = s.plx.interlock := rfl

theorem frameTaken_trc (s : State) : (frameTaken s).trc = s.trc := rfl

/-- R178: the command of a request kind is the arrival of a good frame of its code. -/
theorem exec_requestOf (k : ReqKind) (f : Frame) (s : State) :
    exec (requestOf k f) s = .next (acceptFrame (kindCode k) f s) := by
  cases k <;> rfl

theorem kindCode_lt (k : ReqKind) : kindCode k < 0x80 := by
  cases k <;> decide

@[simp] theorem kindOf_kindCode (k : ReqKind) : kindOf (kindCode k) = some k := by
  cases k <;> rfl

theorem dispatch_kindCode (k : ReqKind) (body : List Byte) (s : State)
    (hb : bodyFits k body = true) : dispatch (kindCode k) body s = answerTo k body s := by
  simp [dispatch, hb]

/-- R178: below 0x80 a frame to the part's own address is taken as an addressed request. -/
theorem acceptFrame_of_addressed {f : Frame} {s : State} (h : Addressed f s) {kind : Nat}
    (hk : kind < 0x80) : acceptFrame kind f s = takeAddressed kind f (frameTaken s) := by
  obtain ⟨hport, haddr, hown⟩ := h
  simp [acceptFrame, hport, haddr, hown, Nat.not_le.2 hk, Config.broadcastAddress]

/-- R179: an addressed request with a fitting body is answered by its owner. -/
theorem exec_of_addressed (k : ReqKind) {f : Frame} {s : State} (h : Addressed f s)
    (hb : bodyFits k f.body = true) :
    exec (requestOf k f) s = .next ((answerTo k f.body (frameTaken s)).reply k f) := by
  rw [exec_requestOf, acceptFrame_of_addressed h (kindCode_lt k), takeAddressed,
    dispatch_kindCode k _ _ hb, holdReply_eq_reply]

/-! ## Moves -/

/-- A move out of a state other than SCANNING and POINT acts on the traverse controller only. -/
theorem moveTo_of_not_leaving (new : TraverseState) {s : State}
    (hs : isScanning s.trc.state = false) (hp : isPoint s.trc.state = false) :
    moveTo new s = s.modTrc (enterState new) := by
  simp [moveTo, hs, hp]

/-- R24: leaving FAULTED for STOPPED zeroes buffer and duty and ends the homing timer, and keeps the rest. -/
theorem moveTo_stopped_of_faulted {s : State} {kind : FaultKind} (h : s.trc.state = .faulted kind) :
    moveTo .stopped s =
      { s with
        trc := { s.trc with state := .stopped, buffer := 0, duty := 0, homingTimer := none } } := by
  rw [moveTo_of_not_leaving _ (by simp [h, isScanning]) (by simp [h, isPoint])]
  simp [State.modTrc, enterState, h, loopRuns, forcesZero, isHoming]

/-! ## HOME -/

/-- R13: the entry into HOMING from STOPPED or PARKED, with the dwell hold cleared. -/
theorem enterHoming_clearHold {s : State} (h : s.trc.state = .stopped ∨ s.trc.state = .parked) :
    enterHoming (clearHold s) =
      { s with
        trc :=
          { s.trc with
            state := .homing (if s.trc.home.level then .seekClear else .seekHome)
            homed := false, homingTimer := some 0, dwellHold := false, stallMs := 0 } } := by
  have hs : isScanning (clearHold s).trc.state = false := by
    rcases h with h | h <;> simp [clearHold, h, isScanning]
  have hp : isPoint (clearHold s).trc.state = false := by
    rcases h with h | h <;> simp [clearHold, h, isPoint]
  rw [enterHoming, moveTo_of_not_leaving _ hs hp]
  rcases h with h | h <;>
    simp [State.modTrc, clearHold, enterState, h, loopRuns, forcesZero, isHoming]

/-- R13: the checks of HOME in their order, and the state an accepted one leaves. -/
theorem answerHome_eq (s : State) :
    answerHome s =
      if (s.trc.state ≠ .stopped ∧ s.trc.state ≠ .parked) ∨ s.trc.backLimit.level = true then
        refuse .state s
      else if s.gtu.geometry.isNone then refuse .notReady s
      else if s.plx.interlock = false then refuse .interlock s
      else
        plain .accepted
          { s with
            trc :=
              { s.trc with
                state := .homing (if s.trc.home.level then .seekClear else .seekHome)
                homed := false, homingTimer := some 0, dwellHold := false, stallMs := 0 } } := by
  unfold answerHome
  by_cases hrest : s.trc.state = .stopped ∨ s.trc.state = .parked
  · rw [enterHoming_clearHold hrest]
    rcases hrest with h | h <;> simp [h]
  · obtain ⟨hstopped, hparked⟩ := not_or.1 hrest
    simp [hstopped, hparked]

/-- Settles O12: the owner's answer, under the reply to an addressed request. -/
theorem homeRequest : Obligations.HomeRequest := by
  intro f s h hb t
  refine (exec_of_addressed .home h (by simp [bodyFits, hb])).trans (congrArg _ ?_)
  simp only [answerTo, answerHome_eq, apply_ite (Answer.reply .home f), reply_refuse, reply_plain]
  rfl

/-! ## PARK -/

/-- Settles O14: after the checks, by traverse state, with the target of a transit and the phase of a scan. -/
theorem parkRequest : Obligations.ParkRequest := by
  intro f s h hb t hold
  refine (exec_of_addressed .park h (by simp [bodyFits, hb])).trans (congrArg _ ?_)
  simp only [answerTo, answerPark, apply_ite (Answer.reply .park f), reply_refuse,
    frameTaken_frame, frameTaken_interlock, Bool.not_eq_true', Bool.and_eq_true, beq_iff_eq]
  rw [parkByState, frameTaken_trc]
  cases s.trc.state with
  | transit target _ => cases target <;> rfl
  | scanning _ phase _ _ => cases phase <;> rfl
  | _ => rfl

/-! ## STOP -/

/-- Settles O15: by traverse state; the abort of a dwell by whether a dwell is open. -/
theorem stopRequest : Obligations.StopRequest := by
  intro f s h hb t
  refine ⟨?_, fun hd => ?_, fun d hd => ?_⟩
  · refine (exec_of_addressed .stop h (by simp [bodyFits, hb])).trans (congrArg _ ?_)
    simp only [answerTo, answerStop, frameTaken_frame]
    cases s.trc.state <;> rfl
  · simp only [abortDwell, hd]
  · simp only [abortDwell, hd]
    rfl

/-! ## CLEAR_FAULT and SET_DRIVE -/

/-- R24: what CLEAR_FAULT does. -/
theorem answerClearFault_eq (s : State) :
    answerClearFault s =
      plain .done
        (if isFaulted s.trc.state then
          { s with
            trc := { s.trc with state := .stopped, buffer := 0, duty := 0, homingTimer := none }
            plx :=
              { s.plx with
                alarms :=
                  endIn .homingFailed
                    (endIn .overtravel (endIn .driveStall (endIn .driveCurrent s.plx.alarms))) } }
        else s) := by
  unfold answerClearFault
  cases h : s.trc.state with
  | faulted kind =>
    rw [moveTo_stopped_of_faulted h]
    rfl
  | _ => rfl

/-- R24: after CLEAR_FAULT the traverse is not in FAULTED. -/
theorem bridgeEnabled_answerClearFault (s : State) :
    bridgeEnabled (answerClearFault s).state = true := by
  rw [answerClearFault_eq]
  by_cases h : isFaulted s.trc.state = true
  · simp only [h, if_true]
    rfl
  · simp [plain, bridgeEnabled, h]

/-- R8: the ranges of the drive record. -/
theorem driveRecord_inRange_iff (d : DriveRecord) :
    d.inRange = true ↔
      (1 ≤ d.kp ∧ d.kp ≤ 255) ∧ (256 ≤ d.stallDuty ∧ d.stallDuty ≤ 1023)
        ∧ d.offTimeMs ∈ [1, 2, 4, 8]
        ∧ (500 ≤ d.transitSpeed ∧ d.transitSpeed ≤ 10000)
        ∧ (200 ≤ d.homingSpeed ∧ d.homingSpeed ≤ 3000) := by
  simp [DriveRecord.inRange, and_assoc, or_assoc]

/-- R8: the checks of SET_DRIVE in their order, and the state an accepted one leaves. -/
theorem answerSetDrive_eq (body : List Byte) (s : State) :
    answerSetDrive body s =
      if ¬ (readDrive body).inRange = true then refuse .range s
      else if s.trc.state ≠ .stopped then refuse .state s
      else plain .done { s with trc := { s.trc with drive := readDrive body } } := by
  simp [answerSetDrive, State.modTrc]

/-- Settles O17: the owners' answers, under the reply to an addressed request. -/
theorem clearFaultAndSetDrive : Obligations.ClearFaultAndSetDrive := by
  intro f s h t
  refine ⟨fun hb => ?_, fun hb => ?_⟩
  · have taken := exec_of_addressed .clearFault h (by simp [bodyFits, hb])
    refine ⟨taken.trans (congrArg _ ?_), fun u hu => ?_⟩
    · rw [answerTo, answerClearFault_eq, reply_plain, frameTaken_trc]
      rfl
    · obtain rfl := Host.Outcome.next.inj (taken.symm.trans hu)
      exact bridgeEnabled_answerClearFault t
  · refine (exec_of_addressed .setDrive h (by simp [bodyFits, hb])).trans (congrArg _ ?_)
    simp only [answerTo, answerSetDrive_eq, driveRecord_inRange_iff,
      apply_ite (Answer.reply .setDrive f), reply_refuse, reply_plain]
    rfl

end Sys2Proof.Machine

section
/-! PROOFS. The arithmetic of the measurement (03) and of the profiles (05): the roundings of R53 to R55, the calibration tables of R68, R69 and R75, the channel stages of R60 to R66, and the filter of R102. -/

namespace Sys2Proof.Machine

/-! ## Nearest-up and nearest-away (R53, R54) -/

/-- A quotient that does not exceed an integer is not rounded above it. -/
theorem nearestUp_le {a b c : Nat} (h : a ≤ c * b) : nearestUp a b ≤ c := by
  unfold nearestUp
  rcases Nat.eq_zero_or_pos b with rfl | hb
  · simp
  · rw [← Nat.lt_succ_iff, Nat.div_lt_iff_lt_mul (by omega)]
    nlinarith

@[simp] theorem nearestUp_zero_left (b : Nat) : nearestUp 0 b = 0 :=
  Nat.le_zero.1 (nearestUp_le (Nat.zero_le _))

@[simp] theorem nearestUp_zero_right (a : Nat) : nearestUp a 0 = 0 := by
  simp [nearestUp]

theorem nearestAway_eq (n d : Int) :
    nearestAway n d =
      if n < 0 ↔ d < 0 then (nearestUp n.natAbs d.natAbs : Int)
      else -(nearestUp n.natAbs d.natAbs : Int) := by
  simp [nearestAway, nearestUp]

/-- Nearest-away is the rounded quotient of the magnitudes, with the sign of the quotient. -/
theorem nearestAway_eq_sign_mul (n d : Int) :
    nearestAway n d = (n * d).sign * nearestUp n.natAbs d.natAbs := by
  rw [nearestAway_eq]
  rcases lt_trichotomy (n * d) 0 with h | h | h
  · have hdiffer : ¬ (n < 0 ↔ d < 0) := by
      rcases mul_neg_iff.1 h with h | h <;> omega
    rw [if_neg hdiffer, Int.sign_eq_neg_one_of_neg h, Int.neg_one_mul]
  · rcases mul_eq_zero.1 h with rfl | rfl <;> simp
  · have hagree : n < 0 ↔ d < 0 := by
      rcases mul_pos_iff.1 h with h | h <;> omega
    rw [if_pos hagree, Int.sign_eq_one_of_pos h, Int.one_mul]

theorem nearestAway_natAbs (n d : Int) :
    (nearestAway n d).natAbs = nearestUp n.natAbs d.natAbs := by
  rw [nearestAway_eq]
  split <;> simp only [Int.natAbs_neg, Int.natAbs_natCast]

theorem nearestAway_nonneg {n d : Int} (h : 0 ≤ n * d) : 0 ≤ nearestAway n d := by
  rw [nearestAway_eq_sign_mul]
  exact Int.mul_nonneg (Int.sign_nonneg_iff.2 h) (Int.natCast_nonneg _)

theorem nearestAway_nonpos {n d : Int} (h : n * d ≤ 0) : nearestAway n d ≤ 0 := by
  rw [nearestAway_eq_sign_mul]
  exact Int.mul_nonpos_of_nonpos_of_nonneg (Int.sign_nonpos_iff.2 h) (Int.natCast_nonneg _)

/-- The distance from a dividend to the rounded multiple of the divisor is that of the magnitudes. -/
theorem nearestAway_mul_sub_natAbs (n d : Int) :
    (nearestAway n d * d - n).natAbs =
      ((nearestUp n.natAbs d.natAbs * d.natAbs : Nat) - (n.natAbs : Int)).natAbs := by
  have factored : nearestAway n d * d - n =
      n.sign * ((nearestUp n.natAbs d.natAbs * d.natAbs : Nat) - (n.natAbs : Int)) := by
    rw [nearestAway_eq_sign_mul, Int.sign_mul, Int.mul_sub, Int.sign_mul_natAbs, Nat.cast_mul,
      Int.natCast_natAbs d, ← Int.sign_mul_self_eq_abs d]
    ring
  rcases eq_or_ne n 0 with rfl | hn
  · simp [factored]
  · rw [factored, Int.natAbs_mul, Int.natAbs_sign_of_ne_zero hn, Nat.one_mul]

/-- R54: nearest-away is nearest, and goes away from zero at a half. -/
theorem nearestAway_nearest {n d : Int} (hd : d ≠ 0) :
    2 * (nearestAway n d * d - n).natAbs ≤ d.natAbs
      ∧ (2 * (nearestAway n d * d - n).natAbs = d.natAbs →
        n.natAbs < (nearestAway n d).natAbs * d.natAbs) := by
  have hpos : 0 < d.natAbs := Int.natAbs_pos.2 hd
  have hspec := nearestUp_spec n.natAbs d.natAbs hpos
  rw [nearestAway_mul_sub_natAbs, nearestAway_natAbs]
  have hcomm : 2 * d.natAbs * nearestUp n.natAbs d.natAbs =
      2 * (nearestUp n.natAbs d.natAbs * d.natAbs) := by ring
  rw [hcomm] at hspec
  generalize nearestUp n.natAbs d.natAbs * d.natAbs = multiple at *
  omega

/-! ## Calibration tables (R68, R69, R75) -/

theorem ascending_iff_isChain : ∀ l : List Nat, ascending l = true ↔ l.IsChain (· < ·)
  | [] => by simp [ascending]
  | [_] => by simp [ascending]
  | a :: b :: l => by simp [ascending, ascending_iff_isChain (b :: l)]

theorem ascending_iff_pairwise (l : List Nat) : ascending l = true ↔ l.Pairwise (· < ·) :=
  (ascending_iff_isChain l).trans List.isChain_iff_pairwise

theorem descending_iff_isChain : ∀ l : List Nat, descending l = true ↔ l.IsChain (· > ·)
  | [] => by simp [descending]
  | [_] => by simp [descending]
  | a :: b :: l => by simp [descending, descending_iff_isChain (b :: l)]

theorem descending_iff_pairwise (l : List Nat) : descending l = true ↔ l.Pairwise (· > ·) :=
  (descending_iff_isChain l).trans List.isChain_iff_pairwise

/-- R75: the checks of a calibration table. -/
theorem tableValid_iff (t : Table) :
    tableValid t = true ↔
      (2 ≤ t.length ∧ t.length ≤ 16) ∧ (∀ p ∈ t, p.1 ≤ 65535 ∧ p.2 ≤ 65535)
        ∧ ((t.map Prod.fst).Pairwise (· < ·) ∨ (t.map Prod.fst).Pairwise (· > ·)) := by
  simp only [tableValid, Bool.and_eq_true, Bool.or_eq_true, decide_eq_true_eq, List.all_eq_true,
    ascending_iff_pairwise, descending_iff_pairwise, and_assoc]

/-- A table with a first and a second breakpoint begins with them. -/
theorem eq_cons_cons_of_getElem? {t : Table} {p q : Nat × Nat} (hp : t[0]? = some p)
    (hq : t[1]? = some q) : ∃ rest, t = p :: q :: rest := by
  match t, hp, hq with
  | a :: b :: rest, hp, hq =>
    simp only [List.getElem?_cons_zero, List.getElem?_cons_succ, Option.some.injEq] at hp hq
    exact ⟨rest, by rw [hp, hq]⟩

/-- R68: x lies between two keys, ends included, in either direction. -/
theorem encloses_iff (x : Nat) (p q : Nat × Nat) :
    encloses x p q = true ↔ p.1 ≤ x ∧ x ≤ q.1 ∨ q.1 ≤ x ∧ x ≤ p.1 := by
  simp [encloses]

/-- R69: the output on a segment that encloses the input is the exact sum, and lies within the segment's outputs. -/
theorem interpolate_spec {p q : Nat × Nat} {x : Nat} (h : encloses x p q = true) :
    (interpolate p q x : Int) =
        p.2 + nearestAway (((q.2 : Int) - p.2) * ((x : Int) - p.1)) ((q.1 : Int) - p.1)
      ∧ min p.2 q.2 ≤ interpolate p q x ∧ interpolate p q x ≤ max p.2 q.2 := by
  rw [encloses_iff] at h
  unfold interpolate
  set rise : Int := (q.2 : Int) - p.2 with hrise
  set run : Int := (x : Int) - p.1 with hrun
  set span : Int := (q.1 : Int) - p.1 with hspan
  have hsame : 0 ≤ run * span := by
    rcases h with h | h
    · exact Int.mul_nonneg (by omega) (by omega)
    · exact Int.mul_nonneg_of_nonpos_of_nonpos (by omega) (by omega)
  have hinside : run.natAbs ≤ span.natAbs := by omega
  have hbound : (nearestAway (rise * run) span).natAbs ≤ rise.natAbs := by
    rw [nearestAway_natAbs, Int.natAbs_mul]
    exact nearestUp_le (Nat.mul_le_mul_left _ hinside)
  have hup : 0 ≤ rise → 0 ≤ nearestAway (rise * run) span := fun hr =>
    nearestAway_nonneg (by rw [Int.mul_assoc]; exact Int.mul_nonneg hr hsame)
  have hdown : rise ≤ 0 → nearestAway (rise * run) span ≤ 0 := fun hr =>
    nearestAway_nonpos
      (by rw [Int.mul_assoc]; exact Int.mul_nonpos_of_nonpos_of_nonneg hr hsame)
  generalize nearestAway (rise * run) span = step at *
  omega

/-- R68: the segment found is the first that encloses the input. -/
theorem segmentAt_eq_some {t : Table} {x i : Nat} {p q : Nat × Nat} (hp : t[i]? = some p)
    (hq : t[i + 1]? = some q) (henc : encloses x p q = true)
    (hfirst : ∀ j a b, j < i → t[j]? = some a → t[j + 1]? = some b →
      ¬ encloses x a b = true) :
    segmentAt x t = some (p, q) := by
  induction i generalizing t with
  | zero =>
    obtain ⟨rest, rfl⟩ := eq_cons_cons_of_getElem? hp hq
    simp [segmentAt, henc]
  | succ i ih =>
    match t, hp, hq, hfirst with
    | [_], hp, _, _ => simp at hp
    | a :: b :: t, hp, hq, hfirst =>
      rw [segmentAt, if_neg (hfirst 0 a b (Nat.succ_pos i) rfl rfl)]
      exact ih (by simpa using hp) (by simpa using hq) fun j c d hj hc hd =>
        hfirst (j + 1) c d (Nat.succ_lt_succ hj) (by simpa using hc) (by simpa using hd)

/-- R68: no segment encloses an input beside all the keys. -/
theorem segmentAt_eq_none {x : Nat} :
    ∀ {t : Table}, ((∀ p ∈ t, x < p.1) ∨ ∀ p ∈ t, p.1 < x) → segmentAt x t = none
  | [], _ => rfl
  | [_], _ => rfl
  | p :: q :: t, h => by
    have hbeside : ¬ encloses x p q = true := by
      simp only [List.forall_mem_cons] at h
      rw [encloses_iff]
      omega
    rw [segmentAt, if_neg hbeside]
    exact segmentAt_eq_none
      (h.imp (fun h => (List.forall_mem_cons.1 h).2) fun h => (List.forall_mem_cons.1 h).2)

theorem lookup_of_segmentAt {t : Table} {x : Nat} {p q : Nat × Nat}
    (h : segmentAt x t = some (p, q)) : lookup t x = (interpolate p q x, false) := by
  simp [lookup, h]

/-- R68: beside all the keys the lookup gives an end output, clamped. -/
theorem lookup_of_outside {t : Table} {x : Nat} (h : (∀ p ∈ t, x < p.1) ∨ ∀ p ∈ t, p.1 < x) :
    lookup t x =
      (if beforeFirst x t then (t.head?.map Prod.snd).getD 0
        else (t.getLast?.map Prod.snd).getD 0, true) := by
  simp [lookup, segmentAt_eq_none h]

/-- Which side of its first key a table of two breakpoints or more takes for its beginning. -/
theorem beforeFirst_eq {t : Table} {x : Nat} {p q : Nat × Nat} (hp : t[0]? = some p)
    (hq : t[1]? = some q) :
    beforeFirst x t = if p.1 < q.1 then decide (x < p.1) else decide (p.1 < x) := by
  obtain ⟨rest, rfl⟩ := eq_cons_cons_of_getElem? hp hq
  simp [beforeFirst]

section Keys

variable {t : Table} {p q z : Nat × Nat}

/-- A valid table rises or falls throughout, as its first two keys do. -/
theorem keys_pairwise (ht : tableValid t = true) (hp : t[0]? = some p) (hq : t[1]? = some q) :
    (p.1 < q.1 → (t.map Prod.fst).Pairwise (· ≤ ·))
      ∧ (q.1 < p.1 → (t.map Prod.fst).Pairwise (· ≥ ·)) := by
  obtain ⟨-, -, hkeys⟩ := (tableValid_iff t).1 ht
  obtain ⟨rest, rfl⟩ := eq_cons_cons_of_getElem? hp hq
  rcases hkeys with hrise | hfall
  · have hfirst : p.1 < q.1 := (List.pairwise_cons.1 hrise).1 q.1 (by simp)
    exact ⟨fun _ => hrise.imp Nat.le_of_lt, fun h => absurd h (Nat.lt_asymm hfirst)⟩
  · have hfirst : q.1 < p.1 := (List.pairwise_cons.1 hfall).1 q.1 (by simp)
    exact ⟨fun h => absurd h (Nat.lt_asymm hfirst), fun _ => hfall.imp Nat.le_of_lt⟩

theorem first_key_rel {R : Nat → Nat → Prop} [Std.Refl R] (hkeys : (t.map Prod.fst).Pairwise R)
    (hp : t[0]? = some p) : ∀ a ∈ t, R p.1 a.1 := by
  obtain ⟨rest, rfl⟩ := List.head?_eq_some_iff.1 (List.head?_eq_getElem?.trans hp)
  intro a ha
  exact hkeys.rel_head (List.mem_map_of_mem ha)

theorem key_rel_last {R : Nat → Nat → Prop} [Std.Refl R] (hkeys : (t.map Prod.fst).Pairwise R)
    (hz : t.getLast? = some z) : ∀ a ∈ t, R a.1 z.1 := by
  obtain ⟨init, rfl⟩ := List.getLast?_eq_some_iff.1 hz
  intro a ha
  simpa using hkeys.rel_getLast (a := a.1) (List.mem_map_of_mem ha)

/-- R68: before the first key, in the direction of the table, the first output is given, clamped. -/
theorem lookup_before_first (ht : tableValid t = true) (hp : t[0]? = some p) (hq : t[1]? = some q)
    {x : Nat} (h : (p.1 < q.1 ∧ x < p.1) ∨ (q.1 < p.1 ∧ p.1 < x)) : lookup t x = (p.2, true) := by
  have hhead : t.head? = some p := by rw [List.head?_eq_getElem?, hp]
  rcases h with ⟨hdir, hx⟩ | ⟨hdir, hx⟩
  · have hkeys := first_key_rel ((keys_pairwise ht hp hq).1 hdir) hp
    rw [lookup_of_outside (.inl fun a ha => Nat.lt_of_lt_of_le hx (hkeys a ha)),
      beforeFirst_eq hp hq]
    simp [hdir, hx, hhead]
  · have hkeys := first_key_rel ((keys_pairwise ht hp hq).2 hdir) hp
    rw [lookup_of_outside (.inr fun a ha => Nat.lt_of_le_of_lt (hkeys a ha) hx),
      beforeFirst_eq hp hq]
    simp [Nat.lt_asymm hdir, hx, hhead]

/-- R68: after the last key, in the direction of the table, the last output is given, clamped. -/
theorem lookup_after_last (ht : tableValid t = true) (hp : t[0]? = some p) (hq : t[1]? = some q)
    (hz : t.getLast? = some z) {x : Nat} (h : (p.1 < q.1 ∧ z.1 < x) ∨ (q.1 < p.1 ∧ x < z.1)) :
    lookup t x = (z.2, true) := by
  have hmem : p ∈ t := List.mem_of_getElem? hp
  rcases h with ⟨hdir, hx⟩ | ⟨hdir, hx⟩
  · have hkeys := key_rel_last ((keys_pairwise ht hp hq).1 hdir) hz
    have hpx : p.1 ≤ x := Nat.le_of_lt (Nat.lt_of_le_of_lt (hkeys p hmem) hx)
    rw [lookup_of_outside (.inr fun a ha => Nat.lt_of_le_of_lt (hkeys a ha) hx),
      beforeFirst_eq hp hq]
    simp [hdir, Nat.not_lt.2 hpx, hz]
  · have hkeys := key_rel_last ((keys_pairwise ht hp hq).2 hdir) hz
    have hxp : x ≤ p.1 := Nat.le_of_lt (Nat.lt_of_lt_of_le hx (hkeys p hmem))
    rw [lookup_of_outside (.inl fun a ha => Nat.lt_of_lt_of_le hx (hkeys a ha)),
      beforeFirst_eq hp hq]
    simp [Nat.lt_asymm hdir, Nat.not_lt.2 hxp, hz]

end Keys

/-- Settles O43: the rounding from its sign and magnitude; a lookup on the first enclosing segment, or beside all the keys, which lie between the two ends of a valid table. -/
theorem tableLookup : Obligations.TableLookup := by
  unfold Obligations.TableLookup
  refine ⟨fun n d hd => ?_, fun t x ht => ⟨?_, ?_, ?_⟩, tableValid_iff⟩
  · obtain ⟨hnear, hhalf⟩ := nearestAway_nearest (n := n) hd
    exact ⟨nearestAway_natAbs n d, fun h => nearestAway_nonneg (Int.le_of_lt h),
      fun h => nearestAway_nonpos (Int.le_of_lt h), hnear, hhalf⟩
  · intro i p q hp hq hbetween hfirst
    have henc : encloses x p q = true := (encloses_iff x p q).2 hbetween
    rw [lookup_of_segmentAt (segmentAt_eq_some hp hq henc fun j a b hj ha hb =>
      mt (encloses_iff x a b).1 (hfirst j a b hj ha hb))]
    exact ⟨rfl, interpolate_spec henc⟩
  · exact fun p q hp hq h => lookup_before_first ht hp hq h
  · exact fun p q z hp hq hz h => lookup_after_last ht hp hq hz h

/-! ## The channel stages (R60 to R66) -/

/-- R61, R66: a count rate saturates where the exact rate exceeds the limit, whatever the gate time. -/
theorem countRate_eq (n gateTime : Nat) :
    countRate n gateTime =
      (if 16777215 * gateTime < n * 1000000 then 16777215 else nearestUp (n * 1000000) gateTime,
        decide (16777215 * gateTime < n * 1000000)) := by
  unfold countRate capQuotient
  by_cases h : 16777215 * gateTime < n * 1000000 <;> simp [Config.counterMax, h]

section Stages

variable {r : SampleRecord} {refs : References}

theorem bwStage_invalid (table : Table) (h : r.flags.satBw = true ∨ refs.r0 = 0) :
    bwStage r refs table = .invalid := by
  simp [bwStage, h]

/-- R61, R62: the table's output for the transmission of the net rate, marked at each of its clamps. -/
theorem bwStage_valid (table : Table) (hsat : r.flags.satBw = false) (hr0 : refs.r0 ≠ 0) :
    let rate := countRate r.counts.bwc r.gateTime
    let net := (rate.1 - refs.b) * 65536
    let y := lookup table (min 65535 (nearestUp net refs.r0))
    bwStage r refs table = .valid y.1 (rate.2 || decide (65535 * refs.r0 < net) || y.2) := by
  simp [bwStage, hsat, hr0, capQuotient_spec _ _ _ (Nat.pos_of_ne_zero hr0)]

theorem waterStage_none (table : Table)
    (h : r.flags.satMa = true ∨ r.flags.satMr = true ∨ r.counts.mrc = 0) :
    waterStage r refs table = none := by
  simp [waterStage, or_assoc, h]

/-- R63: the table's output for the normalized band ratio, marked at each of its clamps. -/
theorem waterStage_some (table : Table) (hma : r.flags.satMa = false)
    (hmr : r.flags.satMr = false) (hmrc : r.counts.mrc ≠ 0) (hq0 : refs.q0 ≠ 0) :
    let q := min 65535 (nearestUp (r.counts.mac * 16384) r.counts.mrc)
    let w := lookup table (min 65535 (nearestUp (q * 16384) refs.q0))
    waterStage r refs table =
      some (w.1,
        decide (65535 * r.counts.mrc < r.counts.mac * 16384)
          || decide (65535 * refs.q0 < q * 16384) || w.2) := by
  simp [waterStage, hma, hmr, hmrc, capQuotient_spec _ _ _ (Nat.pos_of_ne_zero hmrc),
    capQuotient_spec _ _ _ (Nat.pos_of_ne_zero hq0)]

@[simp] theorem moiStage_no_water (floor : Nat) (bw : Reading) :
    moiStage floor bw none = .invalid := by
  cases bw <;> rfl

@[simp] theorem moiStage_bw_invalid (floor : Nat) (water : Option (Nat × Bool)) :
    moiStage floor .invalid water = .invalid := rfl

@[simp] theorem dryStage_moi_invalid (bw : Reading) (water : Option (Nat × Bool)) :
    dryStage .invalid bw water = .invalid := rfl

/-- R64: below the basis-weight floor there is no moisture. -/
theorem moiStage_below_floor {floor v : Nat} (clamped : Bool) (water : Option (Nat × Bool))
    (h : v < floor ∨ v = 0) : moiStage floor (.valid v clamped) water = .invalid := by
  have hfails : ¬ (floor ≤ v ∧ 0 < v) := by omega
  cases water with
  | none => rfl
  | some w => simp [moiStage, hfails]

/-- R64: from the floor on, MOI is the share of water in the basis weight. -/
theorem moiStage_valid {floor v : Nat} (clamped : Bool) (w : Nat) (marked : Bool)
    (hfloor : floor ≤ v) (hpos : 0 < v) :
    moiStage floor (.valid v clamped) (some (w, marked)) =
      .valid (min 9999 (nearestUp (w * 10000) v)) (marked || decide (9999 * v < w * 10000)) := by
  simp [moiStage, hfloor, hpos, capQuotient_spec _ _ _ hpos]

theorem calStage_invalid (table : Table) (h : r.flags.satCl = true) :
    calStage r refs table = .invalid := by
  simp [calStage, h]

/-- R66: the table's output for the oscillator's offset, marked at each of its clamps. -/
theorem calStage_valid (table : Table) (h : r.flags.satCl = false) :
    let rate := countRate r.counts.clc r.gateTime
    let y := lookup table (min 65535 (rate.1 - refs.f0))
    calStage r refs table =
      .valid y.1
        (rate.2 || decide (rate.1 < refs.f0) || decide (65535 < rate.1 - refs.f0) || y.2) := by
  simp [calStage, h, cap_spec]

end Stages

/-! ## The channels of a slot result (R59, R60) -/

section Channels

variable {g : GradeRecord} {r : SampleRecord} {refs : References}

theorem moisturePresent_none (h : g.moisture = none ∨ refs.q0 = 0) :
    moisturePresent g refs = none := by
  rcases h with h | h <;> simp [moisturePresent, h]

theorem moisturePresent_some {m : MoisturePart} (hm : g.moisture = some m) (hq0 : refs.q0 ≠ 0) :
    moisturePresent g refs = some m := by
  simp [moisturePresent, hm, hq0]

theorem caliperPresent_none (h : g.caliper = none ∨ refs.f0 = 0) :
    caliperPresent g refs = none := by
  rcases h with h | h <;> simp [caliperPresent, h]

theorem caliperPresent_some {table : Table} (ht : g.caliper = some table) (hf0 : refs.f0 ≠ 0) :
    caliperPresent g refs = some table := by
  simp [caliperPresent, ht, hf0]

theorem convertUnder_moisture_absent (h : moisturePresent g refs = none) :
    (convertUnder g r refs).moi = .absent ∧ (convertUnder g r refs).dry = .absent := by
  simp [convertUnder, h]

theorem convertUnder_cal_absent (h : caliperPresent g refs = none) :
    (convertUnder g r refs).cal = .absent := by
  simp [convertUnder, h]

/-- R60: a gate that fails makes BW INVALID. -/
theorem convertUnder_bw_of_fails (h : gateFails r.flags = true) :
    (convertUnder g r refs).bw = .invalid := by
  simp [convertUnder, h]

/-- R60: a gate that fails makes MOI and DRY INVALID where they are present. -/
theorem convertUnder_moisture_of_fails {m : MoisturePart} (h : gateFails r.flags = true)
    (hm : moisturePresent g refs = some m) :
    (convertUnder g r refs).moi = .invalid ∧ (convertUnder g r refs).dry = .invalid := by
  simp [convertUnder, h, hm]

/-- R60: a gate that fails makes CAL INVALID where it is present. -/
theorem convertUnder_cal_of_fails {table : Table} (h : gateFails r.flags = true)
    (ht : caliperPresent g refs = some table) : (convertUnder g r refs).cal = .invalid := by
  simp [convertUnder, h, ht]

theorem convertUnder_bw (h : gateFails r.flags = false) :
    (convertUnder g r refs).bw = bwStage r refs g.bwTable := by
  simp [convertUnder, h]

theorem convertUnder_moi {m : MoisturePart} (h : gateFails r.flags = false)
    (hm : moisturePresent g refs = some m) :
    (convertUnder g r refs).moi =
      moiStage m.floor (convertUnder g r refs).bw (waterStage r refs m.table) := by
  simp [convertUnder, h, hm]

theorem convertUnder_dry {m : MoisturePart} (h : gateFails r.flags = false)
    (hm : moisturePresent g refs = some m) :
    (convertUnder g r refs).dry =
      dryStage (convertUnder g r refs).moi (convertUnder g r refs).bw
        (waterStage r refs m.table) := by
  simp [convertUnder, h, hm]

theorem convertUnder_cal {table : Table} (h : gateFails r.flags = false)
    (ht : caliperPresent g refs = some table) :
    (convertUnder g r refs).cal = calStage r refs table := by
  simp [convertUnder, h, ht]

/-- R65: where MOI is INVALID, so is DRY. -/
theorem convertUnder_moisture_invalid {m : MoisturePart} (h : gateFails r.flags = false)
    (hm : moisturePresent g refs = some m)
    (hmoi : moiStage m.floor (convertUnder g r refs).bw (waterStage r refs m.table) = .invalid) :
    (convertUnder g r refs).moi = .invalid ∧ (convertUnder g r refs).dry = .invalid := by
  have hinvalid := (convertUnder_moi h hm).trans hmoi
  exact ⟨hinvalid, by rw [convertUnder_dry h hm, hinvalid, dryStage_moi_invalid]⟩

/-- R64, R65: MOI and DRY from a basis weight at or above the floor and a water weight. -/
theorem convertUnder_moisture_valid {m : MoisturePart} {v w : Nat} {clamped marked : Bool}
    (h : gateFails r.flags = false) (hm : moisturePresent g refs = some m)
    (hbw : (convertUnder g r refs).bw = .valid v clamped)
    (hw : waterStage r refs m.table = some (w, marked)) (hfloor : m.floor ≤ v) (hpos : 0 < v) :
    (convertUnder g r refs).moi =
        .valid (min 9999 (nearestUp (w * 10000) v)) (marked || decide (9999 * v < w * 10000))
      ∧ (convertUnder g r refs).dry = .valid (v - w) (clamped || marked || decide (v < w)) := by
  have hmoi := convertUnder_moi h hm
  rw [hbw, hw, moiStage_valid clamped w marked hfloor hpos] at hmoi
  exact ⟨hmoi, by rw [convertUnder_dry h hm, hmoi, hbw, hw]; rfl⟩

end Channels

/-- Settles O41: channel by channel, absent, under a gate that fails, and by its stage. -/
theorem slotConversion : Obligations.SlotConversion := by
  intro g r refs result fails quotient
  refine ⟨fun h => convertUnder_moisture_absent (moisturePresent_none h),
    fun h => convertUnder_cal_absent (caliperPresent_none h), fun hfails => ⟨?_, ?_, ?_⟩,
    fun hpass => ⟨fun h => ?_, fun hsat hr0 => ?_, fun m hm hq0 => ?_, fun table ht hf0 => ?_⟩⟩
  · exact convertUnder_bw_of_fails hfails
  · intro hm hq0
    obtain ⟨m, hm⟩ := Option.isSome_iff_exists.1 hm
    exact convertUnder_moisture_of_fails hfails (moisturePresent_some hm hq0)
  · intro ht hf0
    obtain ⟨table, ht⟩ := Option.isSome_iff_exists.1 ht
    exact convertUnder_cal_of_fails hfails (caliperPresent_some ht hf0)
  · exact (convertUnder_bw hpass).trans (bwStage_invalid _ h)
  · have hbw := (convertUnder_bw (g := g) (refs := refs) hpass).trans (bwStage_valid _ hsat hr0)
    rwa [countRate_eq] at hbw
  · have present := moisturePresent_some hm hq0
    refine ⟨fun h => ?_, fun hbw => ?_, fun v clamped hma hmr hmrc hbw =>
      ⟨fun h => ?_, fun hfloor hpos => ?_⟩⟩
    · exact convertUnder_moisture_invalid hpass present
        (by rw [waterStage_none _ h, moiStage_no_water])
    · have hbw : (convertUnder g r refs).bw = .invalid := hbw
      exact convertUnder_moisture_invalid hpass present (by rw [hbw, moiStage_bw_invalid])
    · have hbw : (convertUnder g r refs).bw = .valid v clamped := hbw
      exact convertUnder_moisture_invalid hpass present
        (by rw [hbw, moiStage_below_floor clamped _ h])
    · exact convertUnder_moisture_valid hpass present hbw
        (waterStage_some m.table hma hmr hmrc hq0) hfloor hpos
  · have hcal := convertUnder_cal (r := r) hpass (caliperPresent_some ht hf0)
    refine ⟨fun h => hcal.trans (calStage_invalid _ h), fun h => ?_⟩
    have hstage := hcal.trans (calStage_valid _ h)
    rwa [countRate_eq] at hstage

/-! ## The profile filter (R55, R102) -/

/-- R55: floor-shift lies between zero and its argument. -/
theorem floorShift_bounds {k : Nat} (hk : 1 ≤ k) (d : Int) :
    (0 ≤ d → 0 ≤ floorShift k d ∧ floorShift k d ≤ d)
      ∧ (d ≤ 0 → d ≤ floorShift k d ∧ floorShift k d ≤ 0) := by
  obtain ⟨j, rfl⟩ := Nat.exists_eq_add_of_le' hk
  have halves : floorShift (j + 1) d = (d + 2 ^ j) / (2 * 2 ^ j) := by
    rw [floorShift, Nat.add_sub_cancel, Int.pow_succ, Int.mul_comm]
  have hhalf : (0 : Int) < 2 ^ j := by positivity
  rw [halves]
  generalize (2 : Int) ^ j = half at hhalf
  have hwhole : 0 < 2 * half := by omega
  refine ⟨fun hd => ⟨Int.ediv_nonneg (by omega) (by omega), ?_⟩, fun hd => ⟨?_, ?_⟩⟩
  · exact Int.lt_add_one_iff.1 (Int.ediv_lt_of_lt_mul hwhole (by nlinarith))
  · exact (Int.le_ediv_iff_mul_le hwhole).2 (by nlinarith)
  · exact Int.lt_add_one_iff.1 (Int.ediv_lt_of_lt_mul hwhole (by omega))

/-- R102: under re-seed, at shift 0 and in an empty cell the zone value is taken directly. -/
theorem filteredValue_direct {reseeded : Bool} {shift : Nat} {old : Option Nat} (v : Nat)
    (h : reseeded = true ∨ shift = 0 ∨ old = none) : filteredValue reseeded shift old v = v := by
  cases old with
  | none => rfl
  | some f =>
    have hdirect : reseeded = true ∨ shift = 0 := by simpa using h
    simp [filteredValue, hdirect]

/-- R102: otherwise the filtered value moves by floor-shift, towards the zone value and not past it. -/
theorem filteredValue_moves {shift : Nat} (hshift : 1 ≤ shift) (f v : Nat) :
    (filteredValue false shift (some f) v : Int) = f + floorShift shift ((v : Int) - f)
      ∧ min f v ≤ filteredValue false shift (some f) v
      ∧ filteredValue false shift (some f) v ≤ max f v := by
  have hvalue : filteredValue false shift (some f) v =
      ((f : Int) + floorShift shift ((v : Int) - f)).toNat := by
    simp [filteredValue, Nat.ne_of_gt hshift]
  obtain ⟨hrise, hfall⟩ := floorShift_bounds hshift ((v : Int) - f)
  rw [hvalue]
  omega

/-- R102: every cell keeps the last reading of its zone. -/
theorem filterCell_last (p : PassRecord) (shift z : Nat) (reading : ZoneReading)
    (c : ProfileCell) : (filterCell p shift z reading c).last = lastReading reading := by
  unfold filterCell
  dsimp only
  split <;> rfl

section Cells

variable {p : PassRecord} {z : Nat}

/-- R102: a VALID zone between first and last is filtered. -/
theorem filterCell_filtered (shift v : Nat) (c : ProfileCell)
    (hwithin : ∃ first last, p.edges.span = some (first, last) ∧ first ≤ z ∧ z ≤ last) :
    filterCell p shift z (.valid v) c =
      { filtered := some (filteredValue p.reseeded shift c.filtered v), age := 0
        last := .valid v } := by
  obtain ⟨first, last, hspan, hfirst, hlast⟩ := hwithin
  simp [filterCell, hspan, hfirst, hlast, lastReading]

/-- R102: every other cell keeps its filtered value and ages. -/
theorem filterCell_aged (shift : Nat) {reading : ZoneReading} (c : ProfileCell)
    (h : (¬ ∃ first last, p.edges.span = some (first, last) ∧ first ≤ z ∧ z ≤ last)
      ∨ reading = .invalid ∨ reading = .absent) :
    filterCell p shift z reading c =
      { filtered := c.filtered, age := min 255 (c.age + 1), last := lastReading reading } := by
  cases reading with
  | valid v =>
    have houtside :
        ¬ ∃ first last, p.edges.span = some (first, last) ∧ first ≤ z ∧ z ≤ last := by
      simpa using h
    cases hspan : p.edges.span with
    | none => simp [filterCell, hspan]
    | some span =>
      have hbeside : ¬ (span.1 ≤ z ∧ z ≤ span.2) := fun hz =>
        houtside ⟨span.1, span.2, hspan, hz⟩
      simp [filterCell, hspan, hbeside]
  | invalid => simp [filterCell]
  | absent => simp [filterCell]

end Cells

/-- Settles O45: the bounds of floor-shift, and a cell by whether its zone is filtered. -/
theorem profileFilter : Obligations.ProfileFilter := by
  refine ⟨fun k d hk _ => ⟨rfl, floorShift_bounds hk d⟩, fun p shift z reading c => ?_⟩
  refine ⟨fun v h => ?_, fun h => ?_, fun h => ?_, fun v hwithin h => ?_, fun h => ?_⟩
  · rw [filterCell_last, h, lastReading]
  · rw [filterCell_last, h, lastReading]
  · rw [filterCell_last, h, lastReading]
  · rw [h, filterCell_filtered shift v c hwithin]
    refine ⟨rfl, fun hdirect => congrArg some (filteredValue_direct v hdirect),
      fun f hreseed hshift _ hf => ?_⟩
    rw [hreseed, hf]
    exact ⟨_, rfl, filteredValue_moves hshift f v⟩
  · rw [filterCell_aged shift c h]
    exact ⟨rfl, rfl⟩

end Sys2Proof.Machine
end

section
/-! PROOFS. The grade store (04): the ranges of a grade record, LOAD_GRADE and SELECT_GRADE, each from what its owner answers and the lemma that says how an addressed request is answered. -/

namespace Sys2Proof.Machine

/-! ## The ranges of a grade record (R73 to R75) -/

/-- R74: the ranges of the moisture part. -/
theorem moisturePart_inRange_iff (m : MoisturePart) :
    m.inRange = true ↔
      tableValid m.table = true ∧ m.floor ≤ 65535 ∧ m.target ≤ 9999 ∧ m.band ≤ 9999 := by
  simp [MoisturePart.inRange, and_assoc]

/-- R73: the fields of every record in their ranges, and the parts that are present in theirs. -/
theorem gradeRecord_inRange_iff (g : GradeRecord) :
    g.inRange = true ↔
      g.code ≤ 65535 ∧ (500 ≤ g.speed ∧ g.speed ≤ 15000) ∧ tableValid g.bwTable = true
        ∧ g.bwTarget ≤ 65535 ∧ g.bwBand ≤ 65535 ∧ g.edgeThreshold ≤ 65535 ∧ g.edgeGuard ≤ 8
        ∧ (1 ≤ g.minSheetZones ∧ g.minSheetZones ≤ 600) ∧ g.breakThreshold ≤ 65535
        ∧ (2 ≤ g.breakRun ∧ g.breakRun ≤ 64) ∧ g.filterShift ≤ 6 ∧ g.spreadLimit ≤ 65535
        ∧ (∀ m, g.moisture = some m →
          tableValid m.table = true ∧ m.floor ≤ 65535 ∧ m.target ≤ 9999 ∧ m.band ≤ 9999)
        ∧ ∀ table, g.caliper = some table → tableValid table = true := by
  simp only [GradeRecord.inRange, Bool.and_eq_true, decide_eq_true_eq, Option.all_eq_true,
    moisturePart_inRange_iff, and_assoc]

/-! ## LOAD_GRADE (R76) -/

/-- R76: a slot is in use while it is active, staged or pinned by a scan. -/
theorem slotInUse_iff (s : State) (slot : Nat) :
    slotInUse s slot = true ↔
      s.grs.active = some slot ∨ s.grs.staged = some slot
        ∨ ∃ p ∈ s.grs.pins, p.slot = some slot := by
  simp [slotInUse, or_assoc]

/-- R76: the checks of LOAD_GRADE in their order, and the slot an accepted one replaces whole. -/
theorem answerLoadGrade_eq {body : List Byte} {b : GradeBody} (hw : walkGrade body = some b)
    (s : State) :
    answerLoadGrade body s =
      if 7 < b.slot ∨ 3 < b.parts ∨ b.record.inRange = false then refuse .range s
      else if slotInUse s b.slot = true then refuse .slotInUse s
      else
        plain .done
          { s with grs := { s.grs with slots := s.grs.slots.set b.slot (some b.record) } } := by
  simp [answerLoadGrade, hw, Config.gradeSlots, Nat.succ_le_iff, or_assoc, State.modGrs]

/-- R191: a LOAD_GRADE body fits exactly when its walk ends at its last byte. -/
theorem bodyFits_loadGrade {body : List Byte} {b : GradeBody} (hw : walkGrade body = some b) :
    bodyFits .loadGrade body = true := by
  simp [bodyFits, hw]

/-- R76: an addressed LOAD_GRADE with a body that fits, by its checks in their order. -/
theorem exec_loadGrade {f : Frame} {b : GradeBody} {s : State} (h : Addressed f s)
    (hw : walkGrade f.body = some b) :
    exec (.loadGrade f) s =
      .next
        (if 7 < b.slot ∨ 3 < b.parts ∨ b.record.inRange = false then
          replied 0x28 f .range [] (frameTaken s)
        else if slotInUse s b.slot = true then replied 0x28 f .slotInUse [] (frameTaken s)
        else
          replied 0x28 f .done []
            { frameTaken s with
              grs := { s.grs with slots := s.grs.slots.set b.slot (some b.record) } }) := by
  refine (exec_of_addressed .loadGrade h (bodyFits_loadGrade hw)).trans (congrArg _ ?_)
  simp only [answerTo, answerLoadGrade_eq hw, apply_ite (Answer.reply .loadGrade f), reply_refuse,
    reply_plain]
  rfl

/-! ## SELECT_GRADE (R79, R80) -/

/-- R79, R80: the check of SELECT_GRADE, and what a selection does by the active slot and SCANNING. -/
theorem answerSelectGrade_eq (slot : Byte) (s : State) :
    answerSelectGrade [slot] s =
      if 7 < slot.toNat ∨ gradeIn s slot.toNat = none then refuse .range s
      else if s.grs.active = some slot.toNat then
        plain .done { s with grs := { s.grs with staged := none } }
      else if isScanning s.trc.state then
        plain .accepted { s with grs := { s.grs with staged := some slot.toNat } }
      else
        plain .done
          (motionTests
            (setReseed (nextMark s)
              { s with grs := { s.grs with active := some slot.toNat, staged := none } })) := by
  have hslot : u8 [slot] 0 = slot.toNat := rfl
  simp only [answerSelectGrade, hslot, Config.gradeSlots, Nat.succ_le_iff, Bool.or_eq_true,
    decide_eq_true_eq, Option.isNone_iff_eq_none]
  refine if_congr Iff.rfl rfl ?_
  by_cases hactive : s.grs.active = some slot.toNat <;>
    simp [selectScanning, selectNow, hactive, State.modGrs]

/-- Settles O19: the requests by the owners' answers, and the ranges field by field. -/
theorem gradeRequests : Obligations.GradeRequests := by
  refine ⟨?_, ?_, gradeRecord_inRange_iff⟩
  · intro f b s h hw t inUse
    have taken := exec_loadGrade h hw
    have used : slotInUse s b.slot = true ↔ inUse := slotInUse_iff s b.slot
    refine ⟨fun hbad => ?_, fun hslot hparts hrange hin => ?_, fun hslot hparts hrange hfree => ?_⟩
    · rw [taken, if_pos hbad]
    · rw [taken, if_neg (by simp [hslot, hparts, hrange]), if_pos (used.2 hin)]
    · rw [taken, if_neg (by simp [hslot, hparts, hrange]), if_neg (mt used.1 hfree)]
      rfl
  · intro f slot s h hb t n
    refine (exec_of_addressed .selectGrade h (by simp [bodyFits, hb])).trans (congrArg _ ?_)
    rw [answerTo, hb, answerSelectGrade_eq]
    simp only [apply_ite (Answer.reply .selectGrade f), reply_refuse, reply_plain]
    rfl

end Sys2Proof.Machine
end

section
/-! PROOFS. The four reads that clear: FETCH_SUMMARY (06), READ_STANDARDIZE (07), READ_ALARMS and READ_LINES (09), each from what its owner answers and the lemma that says how an addressed request is answered. -/

namespace Sys2Proof.Machine

@[simp] theorem reply_answered (k : ReqKind) (f : Frame) (record : List Byte) (s : State) :
    (answered record s).reply k f = replied (kindCode k) f .done record s := rfl

/-! ## FETCH_SUMMARY (R112) -/

theorem answerFetchSummary_of_empty {s : State} (hq : s.pfb.summaries = []) :
    answerFetchSummary s = plain .empty s := by
  simp only [answerFetchSummary, hq]

/-- R112: the oldest summary stands at the head of the queue, and leaves it with the reply. -/
theorem answerFetchSummary_of_cons {s : State} {x : Summary} {rest : List Summary}
    (hq : s.pfb.summaries = x :: rest) :
    answerFetchSummary s =
      answered (summaryRecord x) { s with pfb := { s.pfb with summaries := rest } } := by
  simp only [answerFetchSummary, hq, State.modPfb]

/-- R112: an addressed FETCH_SUMMARY, by whether the queue is empty. -/
theorem exec_fetchSummary {f : Frame} {s : State} (h : Addressed f s) (hb : f.body = []) :
    exec (.fetchSummary f) s =
      .next
        (match s.pfb.summaries with
        | [] => replied 0x30 f .empty [] (frameTaken s)
        | x :: rest =>
          replied 0x30 f .done (summaryRecord x)
            { frameTaken s with pfb := { (frameTaken s).pfb with summaries := rest } }) := by
  refine (exec_of_addressed .fetchSummary h (by simp [bodyFits, hb])).trans (congrArg _ ?_)
  rw [answerTo]
  have kept : (frameTaken s).pfb.summaries = s.pfb.summaries := rfl
  cases hq : s.pfb.summaries with
  | nil =>
    rw [answerFetchSummary_of_empty (kept.trans hq)]
    rfl
  | cons x rest =>
    rw [answerFetchSummary_of_cons (kept.trans hq)]
    rfl

/-! ## READ_STANDARDIZE (R133) -/

/-- R133: an addressed READ_STANDARDIZE shows the record as it stands and clears STD_DONE. -/
theorem exec_readStandardize {f : Frame} {s : State} (h : Addressed f s) (hb : f.body = []) :
    exec (.readStandardize f) s =
      .next
        (replied 0x3A f .done (standardizeRecord s.sdu)
          { frameTaken s with sdu := { (frameTaken s).sdu with stdDone := false } }) :=
  exec_of_addressed .readStandardize h (by simp [bodyFits, hb])

/-! ## READ_ALARMS (R162) -/

/-- R162: the outcome of READ_ALARMS by the list; ALARM_NEW is cleared for an empty list too. -/
theorem answerReadAlarms_eq (s : State) :
    answerReadAlarms s =
      if s.plx.alarms = [] then
        plain .empty { s with plx := { s.plx with alarmNew := false } }
      else
        answered (alarmsRecord s.plx.alarms) { s with plx := { s.plx with alarmNew := false } } := by
  simp only [answerReadAlarms, List.isEmpty_iff, State.modPlx]

/-- R162: an addressed READ_ALARMS shows the list that the frame's effects leave. -/
theorem exec_readAlarms {f : Frame} {s : State} (h : Addressed f s) (hb : f.body = []) :
    exec (.readAlarms f) s =
      .next
        (if (frameTaken s).plx.alarms = [] then
          replied 0x48 f .empty []
            { frameTaken s with plx := { (frameTaken s).plx with alarmNew := false } }
        else
          replied 0x48 f .done (alarmsRecord (frameTaken s).plx.alarms)
            { frameTaken s with plx := { (frameTaken s).plx with alarmNew := false } }) := by
  refine (exec_of_addressed .readAlarms h (by simp [bodyFits, hb])).trans (congrArg _ ?_)
  simp only [answerTo, answerReadAlarms_eq, apply_ite (Answer.reply .readAlarms f), reply_plain,
    reply_answered]
  rfl

/-! ## READ_LINES (R173) -/

/-- R173: an addressed READ_LINES shows the lines with their change latches, then clears the latches. -/
theorem exec_readLines {f : Frame} {s : State} (h : Addressed f s) (hb : f.body = []) :
    exec (.readLines f) s =
      .next
        (replied 0x4B f .done (linesRecord (frameTaken s))
          { frameTaken s with
            plx :=
              { (frameTaken s).plx with
                inputs := (frameTaken s).plx.inputs.map fun l => { l with change := false } } }) :=
  exec_of_addressed .readLines h (by simp [bodyFits, hb])

/-- Settles O21: each read by its own lemma. -/
theorem readsThatClear : Obligations.ReadsThatClear := by
  intro f s h hb t
  exact ⟨exec_fetchSummary h hb, exec_readStandardize h hb, exec_readAlarms h hb, exec_readLines h hb⟩

end Sys2Proof.Machine
end

section
/-! PROOFS. The completion of a standardize evaluation (06): the drifts and the judgement of R128 and R129, the alarms of R130, and the end of the dwell (R131). -/

namespace Sys2Proof.Machine

/-! ## Drifts and judgements (R128, R129) -/

theorem distance_eq_natAbs (a b : Nat) : distance a b = ((a : Int) - b).natAbs := by
  unfold distance
  omega

theorem driftOf_eq (candidate reference : Nat) :
    driftOf candidate reference =
      if reference = 0 then none
      else
        some (min 65535 (nearestUp (((candidate : Int) - reference).natAbs * 1000) reference)) := by
  simp only [driftOf, distance_eq_natAbs, beq_iff_eq]

theorem candidateQ0_eq (air : PhaseSums) :
    candidateQ0 air =
      if air.mr = 0 then none else some (min 65535 (nearestUp (air.ma * 16384) air.mr)) := by
  simp only [candidateQ0, beq_iff_eq]

theorem judgeCandidate_of_no_drift {reference limit candidate : Nat}
    (h : driftOf candidate reference = none) :
    judgeCandidate reference limit candidate = if candidate = 0 then .rejected .zero else .first := by
  simp only [judgeCandidate, h, beq_iff_eq]

theorem judgeCandidate_of_drift {reference limit candidate x : Nat}
    (h : driftOf candidate reference = some x) :
    judgeCandidate reference limit candidate = if limit < x then .rejected .drift else .adopted := by
  simp only [judgeCandidate, h]

theorem adopts_eq (r : StdResult) : adopts r = (r == .adopted || r == .first) := by
  cases r <;> rfl

theorem judgedChannel_eq (r : StdResult) (reference : Nat) (candidate : Option Nat) (c : StdChannel) :
    judgedChannel r reference candidate c =
      { result := r, candidate := candidate, drift := candidate.bind (driftOf · reference)
        rejects := if adopts r then 0 else min 255 (c.rejects + 1)
        suspect :=
          !adopts r
            && (c.suspect || decide (3 ≤ if adopts r then 0 else min 255 (c.rejects + 1))) } := by
  unfold judgedChannel
  cases adopts r <;> rfl

theorem judgedChannel_suspect_of_adopts {r : StdResult} (h : adopts r = true) (reference : Nat)
    (candidate : Option Nat) (c : StdChannel) :
    (judgedChannel r reference candidate c).suspect = false := by
  simp [judgedChannel, h]

/-! ## The alarms of a judgement (R130) -/

theorem judgementAlarms_of_adopts {c : StdChannel} (h : adopts c.result = true) (channel : Nat)
    (s : State) : judgementAlarms channel c s = s := by
  simp [judgementAlarms, h]

@[simp] theorem judgementAlarms_modSdu (channel : Nat) (c : StdChannel)
    (f : Standardize → Standardize) (s : State) :
    judgementAlarms channel c (s.modSdu f) = (judgementAlarms channel c s).modSdu f := by
  unfold judgementAlarms
  split
  · rfl
  · dsimp only
    split <;> rfl

@[simp] theorem judgementAlarms_modCve (channel : Nat) (c : StdChannel) (f : Engine → Engine)
    (s : State) : judgementAlarms channel c (s.modCve f) = (judgementAlarms channel c s).modCve f := by
  unfold judgementAlarms
  split
  · rfl
  · dsimp only
    split <;> rfl

/-! ## The judgement as one update of the standardize unit -/

/-- R129: the result of BW. -/
def resultBw (d : DwellRecord) (e : Evaluation) (u : Standardize) : StdResult :=
  judge d.darkShutter d.satBw u.refs.r0 u.settings.bwLimit (some (candidateR0 e.dark e.air))

/-- R129: the result of MOI. -/
def resultMoi (d : DwellRecord) (e : Evaluation) (u : Standardize) : StdResult :=
  judge false (d.satMa || d.satMr) u.refs.q0 u.settings.moiLimit (candidateQ0 e.air)

/-- R129: the result of CAL. -/
def resultCal (d : DwellRecord) (e : Evaluation) (u : Standardize) : StdResult :=
  judge false d.satCl u.refs.f0 u.settings.calLimit (some (candidateF0 e.air))

/-- R129: what the judgement of BW writes. -/
def bwJudged (d : DwellRecord) (e : Evaluation) (u : Standardize) : Standardize :=
  let candidate := candidateR0 e.dark e.air
  { u with
    bw := judgedChannel (resultBw d e u) u.refs.r0 (some candidate) u.bw
    refs :=
      if adopts (resultBw d e u) then { u.refs with r0 := candidate, b := candidateB e.dark }
      else u.refs }

/-- R129: what the judgement of MOI writes. -/
def moiJudged (d : DwellRecord) (e : Evaluation) (u : Standardize) : Standardize :=
  let candidate := candidateQ0 e.air
  { u with
    moi := judgedChannel (resultMoi d e u) u.refs.q0 candidate u.moi
    refs :=
      if adopts (resultMoi d e u) then { u.refs with q0 := candidate.getD u.refs.q0 } else u.refs }

/-- R129: what the judgement of CAL writes. -/
def calJudged (d : DwellRecord) (e : Evaluation) (u : Standardize) : Standardize :=
  let candidate := candidateF0 e.air
  { u with
    cal := judgedChannel (resultCal d e u) u.refs.f0 (some candidate) u.cal
    refs := if adopts (resultCal d e u) then { u.refs with f0 := candidate } else u.refs }

/-- R129: what the judgement writes. -/
def judgedUnit (d : DwellRecord) (e : Evaluation) (u : Standardize) : Standardize :=
  calJudged d e (moiJudged d e (bwJudged d e u))

/-- R130: the alarms of the three channels, in the order BW, MOI, CAL. -/
def channelAlarms (u : Standardize) (s : State) : State :=
  judgementAlarms 2 u.cal (judgementAlarms 1 u.moi (judgementAlarms 0 u.bw s))

theorem bwJudged_eq (d : DwellRecord) (e : Evaluation) (u : Standardize) :
    bwJudged d e u =
      { u with
        bw := judgedChannel (resultBw d e u) u.refs.r0 (some (candidateR0 e.dark e.air)) u.bw
        refs :=
          { u.refs with
            b := if adopts (resultBw d e u) then candidateB e.dark else u.refs.b
            r0 := if adopts (resultBw d e u) then candidateR0 e.dark e.air else u.refs.r0 } } := by
  unfold bwJudged
  cases adopts (resultBw d e u)
  · simp only [Bool.false_eq_true, if_false]
  · simp only [if_true]

theorem moiJudged_eq (d : DwellRecord) (e : Evaluation) (u : Standardize) :
    moiJudged d e u =
      { u with
        moi := judgedChannel (resultMoi d e u) u.refs.q0 (candidateQ0 e.air) u.moi
        refs :=
          { u.refs with
            q0 :=
              if adopts (resultMoi d e u) then (candidateQ0 e.air).getD u.refs.q0
              else u.refs.q0 } } := by
  unfold moiJudged
  cases adopts (resultMoi d e u)
  · simp only [Bool.false_eq_true, if_false]
  · simp only [if_true]

theorem calJudged_eq (d : DwellRecord) (e : Evaluation) (u : Standardize) :
    calJudged d e u =
      { u with
        cal := judgedChannel (resultCal d e u) u.refs.f0 (some (candidateF0 e.air)) u.cal
        refs :=
          { u.refs with
            f0 := if adopts (resultCal d e u) then candidateF0 e.air else u.refs.f0 } } := by
  unfold calJudged
  cases adopts (resultCal d e u)
  · simp only [Bool.false_eq_true, if_false]
  · simp only [if_true]

theorem resultMoi_bwJudged (d : DwellRecord) (e : Evaluation) (u : Standardize) :
    resultMoi d e (bwJudged d e u) = resultMoi d e u := by
  simp only [resultMoi, bwJudged_eq]

theorem resultCal_moiJudged (d : DwellRecord) (e : Evaluation) (u : Standardize) :
    resultCal d e (moiJudged d e u) = resultCal d e u := by
  simp only [resultCal, moiJudged_eq]

theorem resultCal_bwJudged (d : DwellRecord) (e : Evaluation) (u : Standardize) :
    resultCal d e (bwJudged d e u) = resultCal d e u := by
  simp only [resultCal, bwJudged_eq]

/-- No channel's judgement reads what another channel's wrote. -/
theorem judgedUnit_eq (d : DwellRecord) (e : Evaluation) (u : Standardize) :
    judgedUnit d e u =
      { u with
        refs :=
          { b := if adopts (resultBw d e u) then candidateB e.dark else u.refs.b
            r0 := if adopts (resultBw d e u) then candidateR0 e.dark e.air else u.refs.r0
            q0 :=
              if adopts (resultMoi d e u) then (candidateQ0 e.air).getD u.refs.q0 else u.refs.q0
            f0 := if adopts (resultCal d e u) then candidateF0 e.air else u.refs.f0 }
        bw := judgedChannel (resultBw d e u) u.refs.r0 (some (candidateR0 e.dark e.air)) u.bw
        moi := judgedChannel (resultMoi d e u) u.refs.q0 (candidateQ0 e.air) u.moi
        cal := judgedChannel (resultCal d e u) u.refs.f0 (some (candidateF0 e.air)) u.cal } := by
  rw [judgedUnit, calJudged_eq, resultCal_moiJudged, resultCal_bwJudged, moiJudged_eq,
    resultMoi_bwJudged, bwJudged_eq]

theorem judgeBw_eq (d : DwellRecord) (e : Evaluation) (s : State) :
    judgeBw d e s = (judgementAlarms 0 (bwJudged d e s.sdu).bw s).modSdu (bwJudged d e) :=
  judgementAlarms_modSdu 0 (bwJudged d e s.sdu).bw (bwJudged d e) s

theorem judgeMoi_eq (d : DwellRecord) (e : Evaluation) (s : State) :
    judgeMoi d e s = (judgementAlarms 1 (moiJudged d e s.sdu).moi s).modSdu (moiJudged d e) :=
  judgementAlarms_modSdu 1 (moiJudged d e s.sdu).moi (moiJudged d e) s

theorem judgeCal_eq (d : DwellRecord) (e : Evaluation) (s : State) :
    judgeCal d e s = (judgementAlarms 2 (calJudged d e s.sdu).cal s).modSdu (calJudged d e) :=
  judgementAlarms_modSdu 2 (calJudged d e s.sdu).cal (calJudged d e) s

/-- The record of a channel is not written by the judgements that follow it. -/
theorem judgedUnit_channels (d : DwellRecord) (e : Evaluation) (u : Standardize) :
    (judgedUnit d e u).bw = (bwJudged d e u).bw
      ∧ (judgedUnit d e u).moi = (moiJudged d e (bwJudged d e u)).moi
      ∧ (judgedUnit d e u).cal = (calJudged d e (moiJudged d e (bwJudged d e u))).cal :=
  ⟨rfl, rfl, rfl⟩

theorem judgementAlarms_sdu (channel : Nat) (c : StdChannel) (s : State) :
    (judgementAlarms channel c s).sdu = s.sdu := by
  simp

theorem modSdu_modSdu (s : State) (f g : Standardize → Standardize) :
    (s.modSdu f).modSdu g = s.modSdu fun u => g (f u) := rfl

theorem judgeBw_sdu (d : DwellRecord) (e : Evaluation) (s : State) :
    (judgeBw d e s).sdu = bwJudged d e s.sdu := by
  rw [judgeBw_eq, State.modSdu_sdu, judgementAlarms_sdu]

theorem judgeMoi_sdu (d : DwellRecord) (e : Evaluation) (s : State) :
    (judgeMoi d e s).sdu = moiJudged d e s.sdu := by
  rw [judgeMoi_eq, State.modSdu_sdu, judgementAlarms_sdu]

theorem judgeChannels_eq (d : DwellRecord) (e : Evaluation) (s : State) :
    judgeCal d e (judgeMoi d e (judgeBw d e s)) =
      (channelAlarms (judgedUnit d e s.sdu) s).modSdu (judgedUnit d e) := by
  obtain ⟨bw, moi, cal⟩ := judgedUnit_channels d e s.sdu
  rw [channelAlarms, bw, moi, cal, judgeCal_eq, judgeMoi_sdu, judgeMoi_eq, judgeBw_sdu, judgeBw_eq,
    judgementAlarms_modSdu, judgementAlarms_modSdu, judgementAlarms_modSdu, modSdu_modSdu,
    modSdu_modSdu]
  rfl

@[simp] theorem channelAlarms_frame (u : Standardize) (s : State) :
    (channelAlarms u s).trc = s.trc ∧ (channelAlarms u s).cve = s.cve
      ∧ (channelAlarms u s).grs = s.grs ∧ (channelAlarms u s).pfb = s.pfb
      ∧ (channelAlarms u s).sdu = s.sdu ∧ (channelAlarms u s).bkm = s.bkm
      ∧ (channelAlarms u s).slp = s.slp := by
  simp [channelAlarms]

theorem judgement_eq (d : DwellRecord) (e : Evaluation) (s : State) :
    judgement d e s =
      (if anySuspect (judgedUnit d e s.sdu) then channelAlarms (judgedUnit d e s.sdu) s
      else endAlarm .stdPersistent (channelAlarms (judgedUnit d e s.sdu) s)).modSdu
        (judgedUnit d e) := by
  unfold judgement
  rw [judgeChannels_eq]
  simp only [State.modSdu_sdu, channelAlarms_frame]
  cases anySuspect (judgedUnit d e s.sdu) <;> rfl

/-! ## The completion (R131) -/

theorem dwellEnds_state {s : State} {resume : Bool} (h : s.trc.state = .dwell resume) :
    (dwellEnds s).trc.state = if resume then .scanning .fwd .turn true false else .parked := by
  cases resume <;> simp [dwellEnds, h, enterScanning, moveTo_trc, enterState]

/-- The head leaves DWELL and not POINT, so the watch of the break monitor stands. -/
theorem dwellEnds_bkm (s : State) : (dwellEnds s).bkm = s.bkm := by
  cases h : s.trc.state with
  | dwell resume =>
    cases resume <;> simp [dwellEnds, h, enterScanning, moveTo, isPoint, isScanning]
  | _ => simp [dwellEnds, h]

theorem completeStandardize_sdu (s : State) :
    (completeStandardize s).sdu =
      { s.sdu with
        wanted := false
        countdown :=
          if s.sdu.settings.interval = 0 then none else some s.sdu.settings.interval
        lastScan := s.pfb.scanNumber, stdDone := true, dwell := none } := by
  simp [completeStandardize, countdownFrom]

theorem completeStandardize_bkm (s : State) : (completeStandardize s).bkm = s.bkm :=
  dwellEnds_bkm _

theorem completeStandardize_state {s : State} {resume : Bool} (h : s.trc.state = .dwell resume) :
    (completeStandardize s).trc.state =
      if resume then .scanning .fwd .turn true false else .parked :=
  dwellEnds_state h

theorem exec_evaluationComplete {e : Evaluation} {s : State}
    (hjob : s.cve.job = some (.evaluation e)) :
    exec .evaluationComplete s =
      .next (engineTests (evaluationResult e (s.modCve fun c => { c with job := none }))) := by
  have arm : exec .evaluationComplete s = .next (evaluationComplete s) := rfl
  rw [arm, evaluationComplete, hjob]

theorem evaluationResult_of_discarded {e : Evaluation} {s : State}
    (h : e.stale = true ∨ s.sdu.dwell = none) : evaluationResult e s = s := by
  cases hdwell : s.sdu.dwell with
  | none => simp only [evaluationResult, hdwell]
  | some d =>
    have hstale : e.stale = true := h.resolve_right (by simp [hdwell])
    simp only [evaluationResult, hdwell, hstale, if_true]

theorem evaluationResult_of_dwell {e : Evaluation} {s : State} {d : DwellRecord}
    (hstale : e.stale = false) (hdwell : s.sdu.dwell = some d) :
    evaluationResult e s =
      motionTests (shutterFollow (completeStandardize (judgement d e s))) := by
  simp [evaluationResult, hstale, hdwell]

theorem judgement_sdu (d : DwellRecord) (e : Evaluation) (s : State) :
    (judgement d e s).sdu = judgedUnit d e s.sdu := by
  rw [judgement_eq, State.modSdu_sdu]
  split <;> simp

theorem judgement_plx (d : DwellRecord) (e : Evaluation) (s : State) :
    (judgement d e s).plx =
      if anySuspect (judgedUnit d e s.sdu) then (channelAlarms (judgedUnit d e s.sdu) s).plx
      else (endAlarm .stdPersistent (channelAlarms (judgedUnit d e s.sdu) s)).plx := by
  rw [judgement_eq, State.modSdu_plx]
  split <;> rfl

theorem channelAlarms_modCve (u : Standardize) (f : Engine → Engine) (s : State) :
    channelAlarms u (s.modCve f) = (channelAlarms u s).modCve f := by
  simp only [channelAlarms, judgementAlarms_modCve]

/-- R130: with every candidate adopted nothing is raised and STD_PERSISTENT ends. -/
theorem judgement_plx_of_adopts {d : DwellRecord} {e : Evaluation} {s : State}
    (hbw : adopts (resultBw d e s.sdu) = true) (hmoi : adopts (resultMoi d e s.sdu) = true)
    (hcal : adopts (resultCal d e s.sdu) = true) :
    (judgement d e s).plx = { s.plx with alarms := endIn .stdPersistent s.plx.alarms } := by
  have settled : anySuspect (judgedUnit d e s.sdu) = false := by
    simp only [anySuspect, judgedUnit_eq, judgedChannel_suspect_of_adopts hbw,
      judgedChannel_suspect_of_adopts hmoi, judgedChannel_suspect_of_adopts hcal, Bool.or_self]
  have silent : channelAlarms (judgedUnit d e s.sdu) s = s := by
    simp only [channelAlarms, judgedUnit_eq]
    rw [judgementAlarms_of_adopts (c := judgedChannel (resultBw d e s.sdu) ..) hbw,
      judgementAlarms_of_adopts (c := judgedChannel (resultMoi d e s.sdu) ..) hmoi,
      judgementAlarms_of_adopts (c := judgedChannel (resultCal d e s.sdu) ..) hcal]
  rw [judgement_plx, settled, silent]
  rfl

theorem completeStandardize_judgement_sdu (d : DwellRecord) (e : Evaluation) (s : State) :
    (completeStandardize (judgement d e s)).sdu =
      { judgedUnit d e s.sdu with
        wanted := false
        countdown := if s.sdu.settings.interval = 0 then none else some s.sdu.settings.interval
        lastScan := s.pfb.scanNumber, stdDone := true, dwell := none } := by
  rw [completeStandardize_sdu, judgement_sdu]
  simp [judgedUnit_eq]

theorem completeStandardize_plx (s : State) : (completeStandardize s).plx = s.plx := by
  simp

/-- Settles O49: the local names of the statement are the functions of the judgement, and the state that the completion passes on to the shutter is the judged one with its dwell ended. -/
theorem standardizeEvaluation : Obligations.StandardizeEvaluation := by
  intro e s hjob idle quotient
  refine ⟨fun h => ?_, ?_⟩
  · rw [exec_evaluationComplete hjob, evaluationResult_of_discarded (s := s.modCve _) h]
    rfl
  intro d hstale hdwell b r0 q0 f0 drift verdict old bw moi cal good judged alarmed
  have hdrift : drift = driftOf := funext₂ fun c ref => (driftOf_eq c ref).symm
  have hverdict : verdict = judgeCandidate := by
    funext ref limit c
    simp only [verdict, hdrift]
    cases h : driftOf c ref with
    | none => rw [judgeCandidate_of_no_drift h]
    | some x => rw [judgeCandidate_of_drift h]
  have hq0 : q0 = candidateQ0 e.air := (candidateQ0_eq e.air).symm
  have hgood : good = adopts := funext fun r => (adopts_eq r).symm
  have hbw : bw = resultBw d e s.sdu := by
    simp only [bw, hverdict]
    rfl
  have hmoi : moi = resultMoi d e s.sdu := by
    simp only [moi, hverdict, hq0]
    rfl
  have hcal : cal = resultCal d e s.sdu := by
    simp only [cal, hverdict]
    rfl
  have hjudged : judged = fun c r candidate ref => judgedChannel r ref candidate c := by
    funext c r candidate ref
    simp only [judged, hgood, hdrift, judgedChannel_eq]
  have halarmed : ∀ channel c u, u.pfb = s.pfb →
      alarmed channel c u = judgementAlarms channel c u := by
    intro channel c u h
    simp only [alarmed, hgood, ← h]
    rfl
  have hb : b = candidateB e.dark := rfl
  have hr0 : r0 = candidateR0 e.dark e.air := rfl
  have hf0 : f0 = candidateF0 e.air := rfl
  clear_value alarmed judged good cal moi bw verdict drift f0 q0 r0 b
  subst hjudged hgood hcal hmoi hbw hdrift hf0 hq0 hr0 hb
  have raised : alarmed 2 (judgedUnit d e s.sdu).cal (alarmed 1 (judgedUnit d e s.sdu).moi
      (alarmed 0 (judgedUnit d e s.sdu).bw s)) = channelAlarms (judgedUnit d e s.sdu) s := by
    rw [halarmed 0 _ _ rfl, halarmed 1 _ _ (by simp), halarmed 2 _ _ (by simp), channelAlarms]
  refine ⟨completeStandardize (judgement d e (s.modCve fun c => { c with job := none })),
    ?_, ?_, ?_, ?_, ?_, ?_⟩
  · rw [exec_evaluationComplete hjob, evaluationResult_of_dwell (s := s.modCve _) hstale hdwell]
  · rw [completeStandardize_judgement_sdu, State.modCve_sdu, judgedUnit_eq]
    rfl
  · exact fun resume h => completeStandardize_state (by simpa using h)
  · intro hbw hmoi hcal
    simpa using judgement_plx_of_adopts (s := s.modCve _) hbw hmoi hcal
  · rw [completeStandardize_judgement_sdu, State.modCve_sdu]
    dsimp only
    rw [raised, completeStandardize_plx, judgement_plx, channelAlarms_modCve]
    rfl
  · simp [completeStandardize_bkm, idle, State.modCve]

end Sys2Proof.Machine
end

section
/-! PROOFS. The settings requests of the standardize unit (06) and of the break monitor (07): SET_STANDARDIZE, STANDARDIZE, SET_BREAK and CLEAR_BREAK_CAUSE, each from what its owner answers and the lemma that says how an addressed request is answered. -/

namespace Sys2Proof.Machine

/-! ## SET_STANDARDIZE (R119, R120) -/

theorem u8_le (l : List Byte) (i : Nat) : u8 l i ≤ 255 :=
  Nat.le_of_lt_succ (l.getD i 0).isLt

/-- R119: the ranges of a settings record. -/
theorem stdSettings_inRange_iff (r : StdSettings) :
    r.inRange = true ↔
      r.interval ≤ 255 ∧ (1 ≤ r.phaseLength ∧ r.phaseLength ≤ 15)
        ∧ (1 ≤ r.bwLimit ∧ r.bwLimit ≤ 500) ∧ (1 ≤ r.moiLimit ∧ r.moiLimit ≤ 500)
        ∧ (1 ≤ r.calLimit ∧ r.calLimit ≤ 500) := by
  simp [StdSettings.inRange, and_assoc]

/-- R119: of a record read from a body the interval is one byte, so it needs no check. -/
theorem readStdSettings_inRange_iff (body : List Byte) :
    (readStdSettings body).inRange = true ↔
      (1 ≤ u8 body 1 ∧ u8 body 1 ≤ 15) ∧ (1 ≤ u16 body 2 ∧ u16 body 2 ≤ 500)
        ∧ (1 ≤ u16 body 4 ∧ u16 body 4 ≤ 500) ∧ (1 ≤ u16 body 6 ∧ u16 body 6 ≤ 500) :=
  (stdSettings_inRange_iff _).trans (and_iff_right (u8_le body 0))

/-- R119, R120: new settings load the countdown only where it is stopped and their interval is not 0. -/
theorem replaceSettingsRecord_eq (r : StdSettings) (u : Standardize) :
    replaceSettingsRecord r u =
      { u with
        settings := r
        countdown :=
          if u.countdown.isNone ∧ r.interval ≠ 0 then some r.interval else u.countdown } := by
  rw [replaceSettingsRecord]
  cases hc : u.countdown with
  | some n => simp
  | none => by_cases hi : r.interval = 0 <;> simp [countdownFrom, hi]

/-- R119: the checks of SET_STANDARDIZE in their order, and the unit an accepted one leaves. -/
theorem answerSetStandardize_eq (body : List Byte) (s : State) :
    answerSetStandardize body s =
      if ¬ (readStdSettings body).inRange = true then refuse .range s
      else if isDwell s.trc.state then refuse .busy s
      else plain .done { s with sdu := replaceSettingsRecord (readStdSettings body) s.sdu } := by
  simp [answerSetStandardize, State.modSdu]

/-- R119: an addressed SET_STANDARDIZE, by its checks in their order. -/
theorem exec_setStandardize {f : Frame} {s : State} (h : Addressed f s) (hb : f.body.length = 8) :
    exec (.setStandardize f) s =
      .next
        (if ¬ (readStdSettings f.body).inRange = true then replied 0x38 f .range [] (frameTaken s)
        else if isDwell s.trc.state then replied 0x38 f .busy [] (frameTaken s)
        else
          replied 0x38 f .done []
            { frameTaken s with
              sdu := replaceSettingsRecord (readStdSettings f.body) (frameTaken s).sdu }) := by
  refine (exec_of_addressed .setStandardize h (by simp [bodyFits, hb])).trans (congrArg _ ?_)
  simp only [answerTo, answerSetStandardize_eq, apply_ite (Answer.reply .setStandardize f),
    reply_refuse, reply_plain]
  rfl

/-! ## STANDARDIZE (R121, R122) -/

/-- R122: an addressed STANDARDIZE, by its checks in their order. -/
theorem exec_standardize {f : Frame} {s : State} (h : Addressed f s) (hb : f.body = []) :
    exec (.standardize f) s =
      .next
        (if isPoint s.trc.state || isHoming s.trc.state || isFaulted s.trc.state then
          replied 0x39 f .state [] (frameTaken s)
        else if s.trc.homed = false then replied 0x39 f .notReady [] (frameTaken s)
        else
          replied 0x39 f .accepted [] (motionTests (setWanted (clearHold (frameTaken s))))) := by
  refine (exec_of_addressed .standardize h (by simp [bodyFits, hb])).trans (congrArg _ ?_)
  simp only [answerTo, answerStandardize, apply_ite (Answer.reply .standardize f), reply_refuse,
    reply_plain, frameTaken_trc, Bool.not_eq_true']
  rfl

/-! ## SET_BREAK (R154) -/

/-- R154: an addressed SET_BREAK, by the range of the recovery delay. -/
theorem exec_setBreak {f : Frame} {s : State} (h : Addressed f s) (hb : f.body.length = 2) :
    exec (.setBreak f) s =
      .next
        (if u16 f.body 0 < 5 ∨ 600 < u16 f.body 0 then replied 0x40 f .range [] (frameTaken s)
        else
          replied 0x40 f .done []
            { frameTaken s with
              bkm := { (frameTaken s).bkm with recoveryDelay := u16 f.body 0 } }) := by
  refine (exec_of_addressed .setBreak h (by simp [bodyFits, hb])).trans (congrArg _ ?_)
  simp only [answerTo, answerSetBreak, apply_ite (Answer.reply .setBreak f), reply_refuse,
    reply_plain, Bool.or_eq_true, decide_eq_true_eq]
  rfl

/-! ## CLEAR_BREAK_CAUSE (R156) -/

/-- R156: an addressed CLEAR_BREAK_CAUSE, by whether the break state is CLEAR. -/
theorem exec_clearBreakCause {f : Frame} {s : State} (h : Addressed f s) (hb : f.body = []) :
    exec (.clearBreakCause f) s =
      .next
        (if s.bkm.state = .clear then
          replied 0x42 f .done []
            { frameTaken s with bkm := { (frameTaken s).bkm with cause := none } }
        else replied 0x42 f .breakActive [] (frameTaken s)) := by
  refine (exec_of_addressed .clearBreakCause h (by simp [bodyFits, hb])).trans (congrArg _ ?_)
  simp only [answerTo, answerClearBreakCause, apply_ite (Answer.reply .clearBreakCause f),
    reply_refuse, reply_plain, beq_iff_eq]
  rfl

/-- Settles O22: each request by its own lemma; the ranges and the countdown of SET_STANDARDIZE in the words of the statement, STANDARDIZE by traverse state. -/
theorem settingsRequests : Obligations.SettingsRequests := by
  refine ⟨?_, ?_⟩
  · intro f s h t
    refine ⟨?_, fun hb => ?_⟩
    · intro hb record
      rw [exec_setStandardize h hb, replaceSettingsRecord_eq]
      exact congrArg _ (if_congr (not_congr (readStdSettings_inRange_iff f.body)) rfl rfl)
    · rw [exec_standardize h hb]
      cases s.trc.state <;> rfl
  · intro f s h t
    exact ⟨exec_setBreak h, exec_clearBreakCause h⟩

end Sys2Proof.Machine
end

section
/-! PROOFS. The alarm list (08): raises (R159), endings (R160) and acknowledgements (R161), each from what it does to the list of entries, and ACK_ALARM from what its owner answers and the lemma that says how an addressed request is answered. -/

namespace Sys2Proof.Machine

/-! ## Raises (R158, R159) -/

/-- R158: the entry of a raised kind is left active exactly when the kind lasts. -/
theorem isEventKind_eq (kind : AlarmKind) :
    isEventKind kind = decide (kind ∈ [AlarmKind.stdRejected, .sampleOverrun, .scanSkipped]) := by
  cases kind <;> rfl

/-- R159: an ACTIVE entry keeps its flags under a raise; an INACTIVE one becomes unacknowledged, and ACTIVE if its kind is a condition. -/
theorem raisedEntry_eq (detail : Int) (e : AlarmEntry) :
    raisedEntry detail e =
      { e with
        active := !isEventKind e.kind || e.active
        acknowledged := e.active && e.acknowledged
        count := min 255 (e.count + 1), detail := detail } := by
  obtain ⟨kind, active, acknowledged, firstScan, count, detail₀⟩ := e
  cases active <;> simp [raisedEntry]

/-- R159: a raise acts on the entry of its kind in its place, or appends one. -/
theorem raiseIn_eq (kind : AlarmKind) (detail : Int) (scan : Nat) (l : List AlarmEntry) :
    raiseIn kind detail scan l =
      if ∃ e ∈ l, e.kind = kind then
        l.map fun e =>
          if e.kind ≠ kind then e
          else
            { e with
              active := !isEventKind kind || e.active
              acknowledged := e.active && e.acknowledged
              count := min 255 (e.count + 1), detail := detail }
      else
        l ++
          [{ kind := kind, active := !isEventKind kind, acknowledged := false, firstScan := scan
             count := 1, detail := detail }] := by
  unfold raiseIn
  refine if_congr (by simp) (List.map_congr_left fun e _ => ?_) rfl
  by_cases he : e.kind = kind
  · subst he
    simp [raisedEntry_eq]
  · simp [he]

/-! ## Endings (R160) -/

/-- R160: an ending removes entries and keeps the order of the others. -/
theorem endIn_kinds_sublist (kind : AlarmKind) (l : List AlarmEntry) :
    ((endIn kind l).map AlarmEntry.kind).Sublist (l.map AlarmEntry.kind) := by
  have kept : AlarmEntry.kind ∘ (fun e => if e.kind = kind then { e with active := false } else e)
      = AlarmEntry.kind := by
    funext e
    simp only [Function.comp]
    split <;> rfl
  simp only [endIn, List.map_map, beq_iff_eq, kept]
  exact List.filter_sublist.map _

theorem mem_endIn {kind : AlarmKind} {l : List AlarmEntry} {e : AlarmEntry} :
    e ∈ endIn kind l ↔
      ∃ e₀ ∈ l, (e₀.kind = kind → e₀.active = true → e₀.acknowledged = false)
        ∧ (if e₀.kind = kind then { e₀ with active := false } else e₀) = e := by
  simp [endIn, and_assoc, or_assoc, imp_iff_not_or]

theorem mem_endIn_of_ne {kind : AlarmKind} {e : AlarmEntry} (he : e.kind ≠ kind)
    (l : List AlarmEntry) : e ∈ endIn kind l ↔ e ∈ l := by
  rw [mem_endIn]
  constructor
  · rintro ⟨e₀, hmem, -, rfl⟩
    by_cases h₀ : e₀.kind = kind
    · simp [h₀] at he
    · simpa [h₀] using hmem
  · intro hmem
    exact ⟨e, hmem, fun h => absurd h he, if_neg he⟩

/-- R160: the entries of the ended kind are INACTIVE: those that were, and the unacknowledged ones that were ACTIVE. -/
theorem mem_endIn_of_eq {kind : AlarmKind} {e : AlarmEntry} (he : e.kind = kind)
    (l : List AlarmEntry) :
    e ∈ endIn kind l ↔
      e.active = false
        ∧ (e ∈ l ∨ (e.acknowledged = false ∧ { e with active := true } ∈ l)) := by
  rw [mem_endIn]
  constructor
  · rintro ⟨⟨kind₀, active, acknowledged, firstScan, count, detail⟩, hmem, hkept, rfl⟩
    by_cases h₀ : kind₀ = kind
    · cases active with
      | false => simpa [h₀] using .inl (h₀ ▸ hmem)
      | true =>
        have hack : acknowledged = false := by simpa [h₀] using hkept
        subst hack h₀
        simpa using .inr hmem
    · simp [h₀] at he
  · rintro ⟨hoff, hmem | ⟨hack, hmem⟩⟩
    · refine ⟨e, hmem, by simp [hoff], ?_⟩
      rw [if_pos he, ← hoff]
    · refine ⟨_, hmem, by simp [hack], ?_⟩
      rw [if_pos he, ← hoff]

/-! ## ACK_ALARM (R161) -/

/-- R158, R161: the numbers that ACK_ALARM reads are those of the table. -/
theorem alarmKindOf_eq_some_iff {n : Nat} {kind : AlarmKind} :
    alarmKindOf n = some kind ↔ alarmNumber kind = n := by
  constructor
  · intro h
    unfold alarmKindOf at h
    split at h <;> cases h <;> rfl
  · rintro rfl
    cases kind <;> rfl

theorem alarmKindOf_eq_none_iff (n : Nat) : alarmKindOf n = none ↔ n = 0 ∨ 16 < n := by
  unfold alarmKindOf
  split
  case h_17 =>
    simp only [imp_false, true_iff] at *
    omega
  all_goals simp

theorem ackIn_eq (selects : AlarmKind → Bool) (l : List AlarmEntry) :
    ackIn selects l =
      (l.filter fun e => !selects e.kind || e.active).map
        fun e => if selects e.kind then { e with acknowledged := true } else e := by
  simp [ackIn, Bool.not_and]

/-- R161: ACK_ALARM refuses a number that is neither a kind's nor ALL, and else acknowledges the entries that the number names. -/
theorem answerAckAlarm_eq (kind : Byte) (s : State) :
    answerAckAlarm [kind] s =
      if kind ≠ 0xFF ∧ (kind.toNat = 0 ∨ 16 < kind.toNat) then refuse .range s
      else acknowledge (fun k => kind == 0xFF || alarmNumber k == kind.toNat) s := by
  have hbyte : u8 [kind] 0 = kind.toNat := rfl
  unfold answerAckAlarm
  rw [hbyte]
  by_cases hall : kind = 0xFF
  · simp [hall]
  · have hnat : (kind.toNat == 0xFF) = false := by
      simpa using fun h => hall (BitVec.eq_of_toNat_eq h)
    have hkind : (kind == 0xFF) = false := beq_eq_false_iff_ne.2 hall
    simp only [hnat, hkind, ne_eq, hall, not_false_eq_true, true_and, ← alarmKindOf_eq_none_iff]
    cases hk : alarmKindOf kind.toNat with
    | none => rfl
    | some k =>
      have named (j : AlarmKind) : (j == k) = (alarmNumber j == kind.toNat) := by
        rw [Bool.eq_iff_iff, beq_iff_eq, beq_iff_eq, ← alarmKindOf_eq_some_iff, hk, Option.some_inj,
          eq_comm]
      simp [named]

/-- R161: an addressed ACK_ALARM, by the number it carries. -/
theorem exec_ackAlarm {f : Frame} {kind : Byte} {s : State} (h : Addressed f s)
    (hb : f.body = [kind]) :
    exec (.ackAlarm f) s =
      .next
        (if kind ≠ 0xFF ∧ (kind.toNat = 0 ∨ 16 < kind.toNat) then
          replied 0x49 f .range [] (frameTaken s)
        else
          replied 0x49 f .done []
            { frameTaken s with
              plx :=
                { (frameTaken s).plx with
                  alarms :=
                    ackIn (fun k => kind == 0xFF || alarmNumber k == kind.toNat)
                      (frameTaken s).plx.alarms } }) := by
  refine (exec_of_addressed .ackAlarm h (by simp [bodyFits, hb])).trans (congrArg _ ?_)
  rw [answerTo, hb, answerAckAlarm_eq]
  simp only [apply_ite (Answer.reply .ackAlarm f), reply_refuse, acknowledge, reply_plain]
  rfl

/-- Settles O24: the list after a raise, after an ending and after an acknowledgement, each by its own lemma. -/
theorem alarmList : Obligations.AlarmList := by
  refine ⟨fun kind detail scan s => ?_, fun kind => by cases kind <;> rfl, fun f kind s h hb => ?_⟩
  · refine ⟨?_, rfl, endIn kind s.plx.alarms, rfl, rfl, endIn_kinds_sublist kind s.plx.alarms,
      fun e he => mem_endIn_of_ne he s.plx.alarms, fun e he => mem_endIn_of_eq he s.plx.alarms⟩
    simp only [raiseFor, State.modPlx, raiseIn_eq, isEventKind_eq, decide_not]
  · rw [exec_ackAlarm h hb, ackIn_eq]

end Sys2Proof.Machine
end

section
/-! PROOFS. What every step keeps: one relation between the states before and after an operation, closed under composition, and one lemma for each operation of the model. The invariants of the statements are read off it for every command. -/

namespace Sys2Proof.Machine

/-! ## The relations -/

/-- Each of five invariants that holds before holds after. -/
structure Keeps (s t : State) : Prop where
  queues : QueuesBounded s → QueuesBounded t
  traverse : TraverseSound s → TraverseSound t
  alarms : AlarmsSound s → AlarmsSound t
  records : RecordsSound s → RecordsSound t
  breaks : BreakKeepsProfile s → BreakKeepsProfile t

/-- No channel reference that is not zero becomes zero (R129). -/
abbrev RefsKept (r q : References) : Prop :=
  (r.r0 ≠ 0 → q.r0 ≠ 0) ∧ (r.q0 ≠ 0 → q.q0 ≠ 0) ∧ (r.f0 ≠ 0 → q.f0 ≠ 0)

/-- What an operation within the part does: it keeps the invariants, every nonzero reference, a cause record that is filled and the grade slots. -/
structure Evolves (s t : State) : Prop extends Keeps s t where
  refs : RecordsSound s → RefsKept s.sdu.refs t.sdu.refs
  cause : ∀ c, s.bkm.cause = some c → t.bkm.cause = some c
  slots : t.grs.slots = s.grs.slots

theorem Keeps.trans {s t u : State} (a : Keeps s t) (b : Keeps t u) : Keeps s u where
  queues h := b.queues (a.queues h)
  traverse h := b.traverse (a.traverse h)
  alarms h := b.alarms (a.alarms h)
  records h := b.records (a.records h)
  breaks h := b.breaks (a.breaks h)

theorem Evolves.refl (s : State) : Evolves s s where
  queues := id
  traverse := id
  alarms := id
  records := id
  breaks := id
  refs _ := ⟨id, id, id⟩
  cause _ := id
  slots := rfl

theorem Evolves.trans {s t u : State} (a : Evolves s t) (b : Evolves t u) : Evolves s u where
  toKeeps := a.toKeeps.trans b.toKeeps
  refs h :=
    have ⟨r, q, f⟩ := a.refs h
    have ⟨r', q', f'⟩ := b.refs (a.records h)
    ⟨r' ∘ r, q' ∘ q, f' ∘ f⟩
  cause c h := b.cause c (a.cause c h)
  slots := b.slots.trans a.slots

/-- Either branch of a test evolves. -/
theorem Evolves.ite {s a b : State} {c : Prop} [Decidable c] (ha : c → Evolves s a)
    (hb : ¬ c → Evolves s b) : Evolves s (if c then a else b) := by
  split
  · exact ha ‹_›
  · exact hb ‹_›

/-! ## Updates of one block -/

/-- The records and settings in force are read from these fields alone. -/
theorem RecordsSound.congr {s t : State} (h : RecordsSound s)
    (drive : t.trc.drive = s.trc.drive) (geometry : t.gtu.geometry = s.gtu.geometry)
    (slots : t.grs.slots = s.grs.slots) (active : t.grs.active = s.grs.active)
    (staged : t.grs.staged = s.grs.staged) (settings : t.sdu.settings = s.sdu.settings)
    (delay : t.bkm.recoveryDelay = s.bkm.recoveryDelay)
    (silence : t.slp.silenceTimeout = s.slp.silenceTimeout)
    (inputs : t.plx.inputs = s.plx.inputs) (interlock : t.plx.interlock = s.plx.interlock) :
    RecordsSound t := by
  unfold RecordsSound gradeIn at *
  rw [drive, geometry, slots, active, staged, settings, delay, silence, inputs, interlock]
  exact h

/-- The traverse is sound as its own block and the comparator stand. -/
theorem TraverseSound.congr {s t : State} (h : TraverseSound s) (trc : t.trc = s.trc)
    (comparator : t.gtu.comparator = s.gtu.comparator ∨ t.gtu.comparator = none
      ∨ isScanning s.trc.state = true) : TraverseSound t := by
  unfold TraverseSound at *
  rw [trc]
  obtain ⟨homed, zero, off, buffer, duty, idle⟩ := h
  refine ⟨homed, zero, off, buffer, duty, fun hs => ?_⟩
  rcases comparator with h | h | h
  · rw [h, idle hs]
  · exact h
  · simp [h] at hs

variable {s : State}

theorem Evolves.modTrc {f : Traverse → Traverse} (drive : (f s.trc).drive = s.trc.drive)
    (sound : TraverseSound s → TraverseSound (s.modTrc f)) : Evolves s (s.modTrc f) where
  queues := id
  traverse := sound
  alarms := id
  records h := h.congr drive rfl rfl rfl rfl rfl rfl rfl rfl rfl
  breaks := id
  refs _ := ⟨id, id, id⟩
  cause _ := id
  slots := rfl

theorem Evolves.modGtu {f : GateUnit → GateUnit} (geometry : (f s.gtu).geometry = s.gtu.geometry)
    (queues : QueuesBounded s → QueuesBounded (s.modGtu f))
    (comparator : (f s.gtu).comparator = s.gtu.comparator ∨ (f s.gtu).comparator = none
      ∨ isScanning s.trc.state = true) : Evolves s (s.modGtu f) where
  queues := queues
  traverse h := h.congr rfl comparator
  alarms := id
  records h := h.congr rfl geometry rfl rfl rfl rfl rfl rfl rfl rfl
  breaks := id
  refs _ := ⟨id, id, id⟩
  cause _ := id
  slots := rfl

theorem Evolves.modCve {f : Engine → Engine} : Evolves s (s.modCve f) where
  queues := id
  traverse := id
  alarms := id
  records := id
  breaks := id
  refs _ := ⟨id, id, id⟩
  cause _ := id
  slots := rfl

theorem Evolves.modGrs {f : GradeStore → GradeStore} (slots : (f s.grs).slots = s.grs.slots)
    (records : RecordsSound s → RecordsSound (s.modGrs f)) : Evolves s (s.modGrs f) where
  queues := id
  traverse := id
  alarms := id
  records := records
  breaks := id
  refs _ := ⟨id, id, id⟩
  cause _ := id
  slots := slots

theorem Evolves.modPfb {f : ProfileBuilder → ProfileBuilder}
    (summaries : s.pfb.summaries.length ≤ 4 → (f s.pfb).summaries.length ≤ 4)
    (trend : s.pfb.trend.length ≤ 64 → (f s.pfb).trend.length ≤ 64)
    (breaks : BreakKeepsProfile s → BreakKeepsProfile (s.modPfb f)) : Evolves s (s.modPfb f) where
  queues := fun ⟨queue, held, hs, ht⟩ => ⟨queue, held, summaries hs, trend ht⟩
  traverse := id
  alarms := id
  records := id
  breaks := breaks
  refs _ := ⟨id, id, id⟩
  cause _ := id
  slots := rfl

theorem Evolves.modSdu {f : Standardize → Standardize} (settings : (f s.sdu).settings = s.sdu.settings)
    (refs : RecordsSound s → RefsKept s.sdu.refs (f s.sdu).refs) : Evolves s (s.modSdu f) where
  queues := id
  traverse := id
  alarms := id
  records h := h.congr rfl rfl rfl rfl rfl settings rfl rfl rfl rfl
  breaks := id
  refs := refs
  cause _ := id
  slots := rfl

/-- An update of the standardize unit beside its references and its settings. -/
theorem Evolves.modSdu_aside {f : Standardize → Standardize}
    (settings : (f s.sdu).settings = s.sdu.settings) (refs : (f s.sdu).refs = s.sdu.refs) :
    Evolves s (s.modSdu f) :=
  .modSdu settings fun _ => by rw [refs]; exact ⟨id, id, id⟩

theorem Evolves.modBkm {f : BreakMonitor → BreakMonitor}
    (delay : (f s.bkm).recoveryDelay = s.bkm.recoveryDelay)
    (cause : ∀ c, s.bkm.cause = some c → (f s.bkm).cause = some c)
    (state : (f s.bkm).state ≠ .clear → s.bkm.state ≠ .clear) : Evolves s (s.modBkm f) where
  queues := id
  traverse := id
  alarms := id
  records h := h.congr rfl rfl rfl rfl rfl rfl delay rfl rfl rfl
  breaks := fun ⟨normal, sets⟩ => ⟨fun hs => normal (state hs), sets⟩
  refs _ := ⟨id, id, id⟩
  cause := cause
  slots := rfl

theorem Evolves.modPlx {f : LineUnit → LineUnit}
    (alarms : AlarmsSound s → AlarmsSound (s.modPlx f))
    (interlock : s.plx.interlock = interlockFormed s.plx.inputs →
      (f s.plx).interlock = interlockFormed (f s.plx).inputs) : Evolves s (s.modPlx f) where
  queues := id
  traverse := id
  alarms := alarms
  records := fun ⟨drive, geometry, len, ranges, active, staged, std, delay, silence, formed⟩ =>
    ⟨drive, geometry, len, ranges, active, staged, std, delay, silence, interlock formed⟩
  breaks := id
  refs _ := ⟨id, id, id⟩
  cause _ := id
  slots := rfl

theorem Evolves.modSlp {f : LinkPort → LinkPort}
    (silence : s.slp.silenceTimeout ≤ 60 → (f s.slp).silenceTimeout ≤ 60) : Evolves s (s.modSlp f) where
  queues := id
  traverse := id
  alarms := id
  records := fun ⟨drive, geometry, len, ranges, active, staged, std, delay, timeout, formed⟩ =>
    ⟨drive, geometry, len, ranges, active, staged, std, delay, silence timeout, formed⟩
  breaks := id
  refs _ := ⟨id, id, id⟩
  cause _ := id
  slots := rfl

end Sys2Proof.Machine
end

section
/-! PROOFS. What the shared operations, the moves and orders, the shutter and the breaks keep. -/

namespace Sys2Proof.Machine
variable {s : State}

/-! ## Scans, re-seed and alarms -/

theorem modEntry_evolves (scan slot : Nat) (f : SlotEntry → SlotEntry) (s : State) :
    Evolves s (modEntry scan slot f s) := by
  unfold modEntry
  split
  · exact .refl s
  · rename_i a _
    cases a <;> exact .modPfb id id id

theorem removeScans_evolves (numbers : List Nat) (s : State) : Evolves s (removeScans numbers s) :=
  .trans
    (.modPfb (f := fun p => { p with contexts := p.contexts.filter fun c => !numbers.contains c.number })
      id id fun ⟨normal, sets⟩ => ⟨fun hs c hc => normal hs c (List.mem_of_mem_filter hc), sets⟩)
    (.modGrs rfl id)

theorem setReseed_evolves (m : Mark) (s : State) : Evolves s (setReseed m s) := .modPfb id id id

/-- A map of the alarm list that keeps every kind and leaves no entry INACTIVE and acknowledged keeps it sound. -/
theorem alarms_map_sound {l : List AlarmEntry} {f : AlarmEntry → AlarmEntry}
    (kind : ∀ e ∈ l, (f e).kind = e.kind)
    (state : ∀ e ∈ l, (f e).active = true ∨ (f e).acknowledged = false)
    (h : (l.map AlarmEntry.kind).Nodup) :
    ((l.map f).map AlarmEntry.kind).Nodup
      ∧ ∀ e ∈ l.map f, e.active = true ∨ e.acknowledged = false := by
  refine ⟨?_, fun e he => ?_⟩
  · have : (l.map f).map AlarmEntry.kind = l.map AlarmEntry.kind := by
      rw [List.map_map]
      exact List.map_congr_left kind
    rwa [this]
  · obtain ⟨x, hx, rfl⟩ := List.mem_map.1 he
    exact state x hx

theorem raisedEntry_sound (detail : Int) {e : AlarmEntry}
    (h : e.active = true ∨ e.acknowledged = false) :
    (raisedEntry detail e).active = true ∨ (raisedEntry detail e).acknowledged = false := by
  unfold raisedEntry
  split
  · exact h
  · exact .inr rfl

/-- R159: after a raise the list has one entry per kind and none INACTIVE and acknowledged. -/
theorem raiseIn_sound (kind : AlarmKind) (detail : Int) (scan : Nat) {l : List AlarmEntry}
    (h : (l.map AlarmEntry.kind).Nodup ∧ ∀ e ∈ l, e.active = true ∨ e.acknowledged = false) :
    ((raiseIn kind detail scan l).map AlarmEntry.kind).Nodup
      ∧ ∀ e ∈ raiseIn kind detail scan l, e.active = true ∨ e.acknowledged = false := by
  obtain ⟨nodup, states⟩ := h
  refine ⟨?_, fun e he => ?_⟩
  · rw [raiseIn_kinds]
    split
    · exact nodup
    · rename_i hk
      exact List.nodup_append_comm.1 (List.nodup_cons.2 ⟨hk, nodup⟩)
  · unfold raiseIn at he
    split at he
    · obtain ⟨x, hx, rfl⟩ := List.mem_map.1 he
      split
      · exact raisedEntry_sound detail (states x hx)
      · exact states x hx
    · rcases List.mem_append.1 he with he | he
      · exact states e he
      · rw [List.mem_singleton.1 he]
        exact .inr rfl

/-- R160: an ending takes out the acknowledged entry of its kind, so that the one it makes INACTIVE is not acknowledged. -/
theorem endIn_sound (kind : AlarmKind) {l : List AlarmEntry}
    (h : (l.map AlarmEntry.kind).Nodup ∧ ∀ e ∈ l, e.active = true ∨ e.acknowledged = false) :
    ((endIn kind l).map AlarmEntry.kind).Nodup
      ∧ ∀ e ∈ endIn kind l, e.active = true ∨ e.acknowledged = false := by
  obtain ⟨nodup, states⟩ := h
  refine alarms_map_sound (fun e _ => by split <;> rfl) (fun e he => ?_)
    ((List.filter_sublist.map _).nodup nodup)
  obtain ⟨hl, hf⟩ := List.mem_filter.1 he
  have := states e hl
  split
  · cases ha : e.active <;> simp_all
  · exact this

/-- R161: an acknowledgement takes out the INACTIVE entries it selects. -/
theorem ackIn_sound (selects : AlarmKind → Bool) {l : List AlarmEntry}
    (h : (l.map AlarmEntry.kind).Nodup ∧ ∀ e ∈ l, e.active = true ∨ e.acknowledged = false) :
    ((ackIn selects l).map AlarmEntry.kind).Nodup
      ∧ ∀ e ∈ ackIn selects l, e.active = true ∨ e.acknowledged = false := by
  obtain ⟨nodup, states⟩ := h
  refine alarms_map_sound (fun e _ => by split <;> rfl) (fun e he => ?_)
    ((List.filter_sublist.map _).nodup nodup)
  obtain ⟨hl, hf⟩ := List.mem_filter.1 he
  have := states e hl
  split
  · simp_all
  · exact this

theorem raiseFor_evolves (kind : AlarmKind) (detail : Int) (scan : Nat) (s : State) :
    Evolves s (raiseFor kind detail scan s) :=
  .modPlx (raiseIn_sound kind detail scan) id

theorem raiseAlarm_evolves (kind : AlarmKind) (detail : Int) (s : State) :
    Evolves s (raiseAlarm kind detail s) := raiseFor_evolves kind detail _ s

theorem endAlarm_evolves (kind : AlarmKind) (s : State) : Evolves s (endAlarm kind s) :=
  .modPlx (endIn_sound kind) id

/-! ## Captures and the sample queue -/

theorem capture_evolves (s : State) : Evolves s (capture s) := .modGtu rfl id (.inl rfl)

/-- A removal of records leaves a queue within its depth, and a record held only while it is full. -/
theorem removeRecords_bounded (selects : SampleRecord → Bool) {g : GateUnit} (h : g.queue.length ≤ 8) :
    (removeRecords selects g).queue.length ≤ 8
      ∧ ((removeRecords selects g).held.isSome → (removeRecords selects g).queue.length = 8) :=
  joinHeld_bounded _ ((List.length_filter_le _ _).trans h)

theorem purge_evolves (numbers : List Nat) (s : State) : Evolves s (purge numbers s) := by
  refine .modGtu ?_ (fun ⟨queue, _, rest⟩ => ?_) (.inl ?_)
  · rw [removeRecords_rest]
  · obtain ⟨hq, hh⟩ := removeRecords_bounded (ofScans numbers) queue
    exact ⟨hq, hh, rest⟩
  · rw [removeRecords_rest]

theorem overrun_evolves (displaced : SampleRecord) (s : State) : Evolves s (overrun displaced s) := by
  unfold overrun
  split
  · exact raiseAlarm_evolves _ _ s
  all_goals exact (modEntry_evolves _ _ _ s).trans (raiseFor_evolves _ _ _ _)

/-- R41: a record goes into a queue with room, or is held while the queue is full. -/
theorem place_evolves (r : SampleRecord) (s : State) : Evolves s (place r s) := by
  have hold (h : ¬ s.gtu.queue.length < Config.sampleQueueDepth) :
      Evolves s (s.modGtu fun g => { g with held := some r }) :=
    .modGtu rfl (fun ⟨queue, _, rest⟩ => ⟨queue, fun _ => by
      simp only [Config.sampleQueueDepth] at h; simp; omega, rest⟩) (.inl rfl)
  unfold place
  split
  · rename_i h
    refine .modGtu rfl (fun ⟨queue, held, rest⟩ => ⟨?_, fun hs => ?_, rest⟩) (.inl rfl) <;>
      simp only [Config.sampleQueueDepth, State.modGtu_gtu, List.length_append, List.length_singleton] at *
    · omega
    · have := held hs
      omega
  · split
    · exact hold ‹_›
    · exact (hold ‹_›).trans (overrun_evolves _ _)

theorem setWanted_evolves (s : State) : Evolves s (setWanted s) := .modSdu_aside rfl rfl

/-! ## The arbiter -/

theorem takeSample_evolves {r : SampleRecord} {rest : List SampleRecord}
    (h : s.gtu.queue = r :: rest) : Evolves s (takeSample r rest s) := by
  refine Evolves.modCve.trans (.modGtu ?_ (fun ⟨queue, _, others⟩ => ?_) (.inl ?_))
  · rw [joinHeld_rest]
  · have : rest.length ≤ 8 := by
      rw [State.modCve_gtu, h, List.length_cons] at queue
      omega
    obtain ⟨hq, hh⟩ := joinHeld_bounded { s.gtu with queue := rest } this
    exact ⟨hq, hh, others⟩
  · rw [joinHeld_rest]

theorem takeChunk_evolves {p : PassRecord} (h : offeredPass s = some p) : Evolves s (takeChunk p s) := by
  refine Evolves.modCve.trans (.modPfb id id fun ⟨normal, sets⟩ => ⟨normal, fun hp => sets fun q hq => ?_⟩)
  have : s.pfb.pass = some p := (Option.filter_eq_some_iff.1 h).1
  obtain rfl : q = p := Option.some.inj (hq.symm.trans this)
  exact hp { q with offered := false } rfl

theorem arbiterChoice_evolves (s : State) : Evolves s (arbiterChoice s) := by
  unfold arbiterChoice
  split
  · exact Evolves.modCve.trans (.modSdu_aside rfl rfl)
  · split
    · exact takeChunk_evolves ‹_›
    · exact takeSample_evolves ‹_›
  · exact takeSample_evolves ‹_›
  · exact takeChunk_evolves ‹_›
  · exact .refl s

theorem arbitrate_evolves (s : State) : Evolves s (arbitrate s) := by
  unfold arbitrate
  split
  · exact .refl s
  · exact arbiterChoice_evolves s

/-! ## Moves of the traverse -/

/-- A move changes nothing of the gate unit but the comparator, which leaving SCANNING idles, and the point timer. -/
theorem moveTo_gtu (new : TraverseState) (s : State) :
    (moveTo new s).gtu.geometry = s.gtu.geometry ∧ (moveTo new s).gtu.queue = s.gtu.queue
      ∧ (moveTo new s).gtu.held = s.gtu.held
      ∧ (moveTo new s).gtu.comparator =
        if isScanning s.trc.state && !isScanning new then none else s.gtu.comparator := by
  unfold moveTo leavePoint
  dsimp only
  (repeat' split) <;> simp

/-- A move changes nothing of the break monitor but the watch. -/
theorem moveTo_bkm (new : TraverseState) (s : State) :
    (moveTo new s).bkm.state = s.bkm.state ∧ (moveTo new s).bkm.cause = s.bkm.cause
      ∧ (moveTo new s).bkm.recoveryDelay = s.bkm.recoveryDelay := by
  unfold moveTo leavePoint
  dsimp only
  (repeat' split) <;> simp

/-- R1, R4, R34: a move into a state keeps the traverse sound; into a referenced one the head must come with homed true. -/
theorem moveTo_sound (new : TraverseState) (h : TraverseSound s)
    (homed : referenced new = true → s.trc.homed = true) : TraverseSound (moveTo new s) := by
  obtain ⟨_, zero, off, buffer, duty, idle⟩ := h
  obtain ⟨_, _, _, comparator⟩ := moveTo_gtu new s
  unfold TraverseSound
  rw [moveTo_trc, comparator]
  refine ⟨homed, ?_, ?_, ?_, ?_, fun hn => ?_⟩
  · intro hr
    change loopRuns new = false at hr
    simp [enterState, forcesZero, hr]
  · intro ho
    have := off ho
    simp only [enterState]
    split <;> simp [this]
  · simp only [enterState]
    split
    · simp
    · exact buffer
  · simp only [enterState]
    split
    · simp
    · exact duty
  · change isScanning new = false at hn
    cases hs : isScanning s.trc.state with
    | false => simpa using idle hs
    | true => simp [hn]

theorem moveTo_keeps_rest (new : TraverseState) (s : State)
    (sound : TraverseSound s → TraverseSound (moveTo new s)) : Evolves s (moveTo new s) := by
  obtain ⟨geometry, queue, held, _⟩ := moveTo_gtu new s
  obtain ⟨state, cause, delay⟩ := moveTo_bkm new s
  constructor
  · constructor
    · unfold QueuesBounded
      simp [queue, held]
    · exact sound
    · unfold AlarmsSound
      simp
    · exact fun h => h.congr (by rw [moveTo_trc]; rfl) geometry (by simp) (by simp) (by simp)
        (by simp) delay (by simp) (by simp) (by simp)
    · unfold BreakKeepsProfile
      simp [state]
  · rw [(moveTo_frame new s).2.2.2.1]
    exact fun _ => ⟨id, id, id⟩
  · simp [cause]
  · simp

/-- A move evolves; into a referenced state it has to come from one, or with homed true. -/
theorem moveTo_evolves (new : TraverseState)
    (h : referenced new = true → referenced s.trc.state = true ∨ s.trc.homed = true) :
    Evolves s (moveTo new s) :=
  moveTo_keeps_rest new s fun sound => moveTo_sound new sound fun hn =>
    (h hn).elim (fun hr => sound.1 hr) id

theorem dropWatch_evolves (numbers : List Nat) (s : State) : Evolves s (dropWatch numbers s) := by
  unfold dropWatch
  split
  · exact .ite (fun _ => .modBkm rfl (fun _ => id) id) fun _ => .refl s
  · exact .refl s

theorem abortOpenScan_evolves (s : State) : Evolves s (abortOpenScan s) := by
  unfold abortOpenScan
  split
  · exact .refl s
  · exact ((Evolves.modGtu rfl id (.inr (.inl rfl))).trans (purge_evolves _ _)).trans
      ((removeScans_evolves _ _).trans (dropWatch_evolves _ _))

theorem abortDwell_evolves (s : State) : Evolves s (abortDwell s) := by
  unfold abortDwell
  split
  · exact .refl s
  · exact ((Evolves.modGtu rfl id (.inl rfl)).trans .modCve).trans (.modSdu_aside rfl rfl)

/-- R9, R34: SCANNING is entered with the comparator armed. -/
theorem enterScanning_evolves (h : referenced s.trc.state = true ∨ s.trc.homed = true) :
    Evolves s (enterScanning s) :=
  (moveTo_evolves _ fun _ => h).trans (.modGtu rfl id (.inr (.inr (by rw [moveTo_trc]; rfl))))

theorem enterDwell_evolves (resumeScan : Bool) (h : referenced s.trc.state = true ∨ s.trc.homed = true) :
    Evolves s (enterDwell resumeScan s) :=
  ((moveTo_evolves _ fun _ => h).trans (.modSdu_aside rfl rfl)).trans
    ((capture_evolves _).trans (.modGtu rfl id (.inl rfl)))

theorem enterPoint_evolves (position periodMs : Nat)
    (h : referenced s.trc.state = true ∨ s.trc.homed = true) :
    Evolves s (enterPoint position periodMs s) := by
  have cleared : Evolves s ((moveTo (.point position periodMs) s).modGtu fun g =>
      { removeRecords (fun r => r.kind == .point) g with pointSequence := 0, pointTimer := some 0 }) := ?_
  · have emptied (t : State) : Evolves t (t.modPfb fun p => { p with trend := [] }) :=
      .modPfb id (fun _ => Nat.zero_le _) id
    have watched (t : State) : Evolves t (t.modBkm fun b => { b with watch := .point, runCount := 0 }) :=
      .modBkm rfl (fun _ => id) id
    exact (cleared.trans (capture_evolves _)).trans (Evolves.modCve.trans ((emptied _).trans (watched _)))
  refine (moveTo_evolves (.point position periodMs) fun _ => h).trans ?_
  refine .modGtu ?_ (fun ⟨queue, _, rest⟩ => ?_) (.inl ?_)
  · rw [removeRecords_rest]
  · obtain ⟨hq, hh⟩ := removeRecords_bounded (fun r => r.kind == .point) queue
    exact ⟨hq, hh, rest⟩
  · rw [removeRecords_rest]

/-! ## Orders -/

theorem parkOrder_evolves (s : State) : Evolves s (parkOrder s) := by
  unfold parkOrder
  split
  case h_1 h =>
    exact (abortOpenScan_evolves s).trans (moveTo_evolves _ fun _ => .inl (by simp [h, referenced]))
  case h_6 | h_7 | h_8 | h_9 | h_10 | h_11 => exact .refl s
  all_goals exact moveTo_evolves _ fun _ => .inl (by simp [*, referenced])

theorem haltOrder_evolves (s : State) : Evolves s (haltOrder s) := by
  unfold haltOrder
  split
  case h_5 h =>
    exact (abortDwell_evolves s).trans (moveTo_evolves _ fun _ => .inl (by simp [h, referenced]))
  case h_6 | h_7 | h_8 | h_9 => exact .refl s
  all_goals exact (abortOpenScan_evolves s).trans (moveTo_evolves _ fun h => by simp [referenced] at h)

theorem scanOrder_evolves (s : State) : Evolves s (scanOrder s) := by
  unfold scanOrder
  split
  · rename_i h
    exact .ite (fun _ => .refl s) fun _ => enterScanning_evolves (.inl (by simp [h, referenced]))
  · exact .refl s

theorem enterFaulted_evolves (kind : FaultKind) (s : State) : Evolves s (enterFaulted kind s) := by
  have moved : Evolves s (moveTo (.faulted kind) (abortDwell (abortOpenScan s))) :=
    ((abortOpenScan_evolves s).trans (abortDwell_evolves _)).trans
      (moveTo_evolves _ fun h => by simp [referenced] at h)
  refine (moved.trans (.modTrc rfl ?_)).trans (raiseAlarm_evolves _ _ _)
  rintro ⟨_, rest⟩
  refine ⟨fun h => ?_, rest⟩
  simp [moveTo_trc, enterState, referenced] at h

/-! ## The shutter -/

theorem startAir_evolves (s : State) : Evolves s (startAir s) := by
  unfold startAir
  split
  · exact .ite
      (fun _ => ((Evolves.modSdu_aside rfl rfl).trans (capture_evolves _)).trans (.modGtu rfl id (.inl rfl)))
      fun _ => .refl s
  · exact .refl s

theorem shutterAgrees_evolves (s : State) : Evolves s (shutterAgrees s) := by
  have ended : Evolves s (endAlarm .shutter (s.modSdu fun u => { u with supervision := .agreed })) :=
    (Evolves.modSdu_aside rfl rfl).trans (endAlarm_evolves _ _)
  exact .ite (fun _ => ended.trans (startAir_evolves _)) fun _ => ended

theorem shutterFollow_evolves (s : State) : Evolves s (shutterFollow s) := by
  have commanded : Evolves s (s.modSdu fun u =>
      { u with shutterOpen := shutterWanted s, supervision := .settling, window := 0 }) :=
    .modSdu_aside rfl rfl
  exact .ite (fun _ => .refl s) fun _ =>
    .ite (fun _ => commanded.trans (shutterAgrees_evolves _)) fun _ => commanded

theorem shutterFailMove_evolves (s : State) : Evolves s (shutterFailMove s) := by
  unfold shutterFailMove
  split
  · rename_i h
    exact ((abortDwell_evolves s).trans (moveTo_evolves _ fun _ => .inl (by simp [h, referenced]))).trans
      (.modTrc rfl id)
  · exact parkOrder_evolves s
  · exact parkOrder_evolves s
  · exact .refl s

theorem shutterFails_evolves (s : State) : Evolves s (shutterFails s) := by
  have raised : Evolves s (raiseAlarm .shutter (if s.sdu.shutterOpen then 1 else 0)
      (s.modSdu fun u => { u with supervision := .failed })) :=
    (Evolves.modSdu_aside rfl rfl).trans (raiseAlarm_evolves _ _ _)
  exact .ite (fun _ => raised.trans ((shutterFailMove_evolves _).trans (shutterFollow_evolves _)))
    fun _ => raised

/-! ## Breaks -/

theorem fillCause_evolves (d : Declared) (s : State) : Evolves s (fillCause d s) := by
  cases h : s.bkm.cause with
  | none => exact .modBkm (by simp [h]) (by simp [h]) (by simp [h])
  | some c => exact .modBkm (by simp [h]) (by simp [h]) (by simp [h])

/-- R145: with every scan abandoned and the working set restored, the break may begin. -/
theorem abandonAll_breakDown_evolves (s : State) : Evolves s (abandonAll (breakDown s)) := by
  have abandoned : Evolves s (abandonAll s) :=
    ((purge_evolves _ _).trans (removeScans_evolves _ _)).trans
      ((Evolves.modPfb id id fun ⟨normal, _⟩ => ⟨normal, fun _ => rfl⟩).trans (setReseed_evolves _ _))
  have commute : abandonAll (breakDown s) = breakDown (abandonAll s) := rfl
  have none_held : (abandonAll s).pfb.contexts = [] := by
    simp only [abandonAll, setReseed, removeScans, State.modPfb_pfb, State.modGrs_pfb, purge_frame]
    refine List.filter_eq_nil_iff.2 fun c hc => ?_
    simpa using ⟨c, hc, rfl⟩
  rw [commute]
  refine abandoned.trans ⟨⟨id, id, id, fun h => h, fun ⟨_, sets⟩ => ⟨fun _ c hc => ?_, sets⟩⟩,
    fun _ => ⟨id, id, id⟩, fun _ => id, rfl⟩
  have : c ∈ (abandonAll s).pfb.contexts := hc
  simp [none_held] at this

theorem declarationPark_evolves (s : State) : Evolves s (declarationPark s) := by
  rcases declarationPark_cases s with h | ⟨h, _⟩ <;> rw [h]
  · exact parkOrder_evolves s
  · exact .refl s

theorem declareBreak_evolves (d : Declared) (s : State) : Evolves s (declareBreak d s) :=
  ((fillCause_evolves d s).trans (abandonAll_breakDown_evolves _)).trans
    ((declarationPark_evolves _).trans (raiseAlarm_evolves _ _ _))

theorem inputCause_evolves (line : Nat) (s : State) : Evolves s (inputCause line s) :=
  .ite (fun _ => .refl s) fun _ => declareBreak_evolves _ s

theorem edgeCollapse_evolves (scan width : Nat) (s : State) : Evolves s (edgeCollapse scan width s) :=
  .ite (fun _ => declareBreak_evolves _ s) fun _ => .refl s

theorem returnToWaiting_evolves (h : s.bkm.state = .probing) : Evolves s (returnToWaiting s) :=
  .modBkm rfl (fun _ => id) fun _ => by simp [h]

theorem probingLostTest_evolves (s : State) : Evolves s (probingLostTest s) :=
  .ite (fun h => returnToWaiting_evolves (by simp_all)) fun _ => .refl s

theorem dwellTest_evolves (s : State) : Evolves s (dwellTest s) :=
  .ite (fun h => enterDwell_evolves _ (.inl (by simp_all [referenced]))) fun _ => .refl s

theorem waitingTest_evolves (s : State) : Evolves s (waitingTest s) :=
  .ite (fun h => .modBkm rfl (fun _ => id) fun _ => by simp_all) fun _ => .refl s

theorem delayTest_evolves (s : State) : Evolves s (delayTest s) :=
  .ite (fun h => .modBkm rfl (fun _ => id) fun _ => by simp_all) fun _ => .refl s

theorem probingTest_evolves (s : State) : Evolves s (probingTest s) :=
  .ite (fun h => (Evolves.modBkm rfl (fun _ => id) fun _ => by simp_all).trans (scanOrder_evolves _))
    fun _ => .refl s

theorem parkTests_evolves (s : State) : Evolves s (parkTests s) :=
  ((probingLostTest_evolves s).trans (dwellTest_evolves _)).trans
    ((waitingTest_evolves _).trans ((delayTest_evolves _).trans (probingTest_evolves _)))

theorem motionTests_evolves (s : State) : Evolves s (motionTests s) :=
  (parkTests_evolves s).trans (shutterFollow_evolves _)

/-- What evolves evolves with the tests after it. -/
theorem Evolves.tested {s t : State} (h : Evolves s t) : Evolves s (motionTests t) :=
  h.trans (motionTests_evolves t)

theorem setUpWatch_evolves (scan : Nat) (kind : ScanKind) (slot : Option Nat) (s : State) :
    Evolves s (setUpWatch scan kind slot s) := .modBkm rfl (fun _ => id) id

theorem countResult_evolves (g : GradeRecord) (bw : Reading) (origin : Origin) (scan : Nat)
    (zone : Option Nat) (s : State) : Evolves s (countResult g bw origin scan zone s) := by
  have counted : Evolves s (s.modBkm fun b => { b with runCount := countedRun s g bw }) :=
    .modBkm rfl (fun _ => id) id
  exact .ite (fun _ => counted.trans (declareBreak_evolves _ _)) fun _ => counted

theorem watchResult_evolves (j : SampleJob) (bw : Reading) (s : State) :
    Evolves s (watchResult j bw s) := by
  unfold watchResult
  split
  · unfold watchScanResult
    split
    · exact .ite (fun _ => countResult_evolves ..) fun _ => .refl s
    · exact .refl s
  · exact .refl s
  · refine .ite (fun _ => .refl s) fun _ => ?_
    unfold watchPointResult
    split
    · exact .ite (fun _ => countResult_evolves ..) fun _ => .refl s
    · exact .refl s

theorem noSheet_evolves (h : s.bkm.state = .probing) : Evolves s (noSheet s) :=
  ((Evolves.modBkm (f := fun b => { b with failedProbes := min 255 (b.failedProbes + 1) })
    rfl (fun _ => id) id).trans (returnToWaiting_evolves h)).trans (parkOrder_evolves _)

theorem probeReport_evolves (scan width minimum : Nat) (s : State) :
    Evolves s (probeReport scan width minimum s) := by
  have recorded : Evolves s (recordProbe scan width minimum s) := .modBkm rfl (fun _ => id) id
  refine .ite (fun h => .ite (fun _ => recorded.trans ?_) fun _ => recorded.trans ?_) fun _ => .refl s
  · exact (Evolves.modBkm rfl (fun _ => id) fun h => absurd rfl h).trans (endAlarm_evolves _ _)
  · exact noSheet_evolves (eq_of_beq h)

theorem expireDelay_evolves {delay : DelayState} (h : s.bkm.state = .waiting delay) :
    Evolves s (expireDelay s) := .modBkm rfl (fun _ => id) fun _ => by simp [h]

end Sys2Proof.Machine
end

section
/-! PROOFS. What the profile builder, the gates, the standardize unit and the lines keep. -/

namespace Sys2Proof.Machine
variable {s : State}

/-! ## Scan starts and ends -/

theorem countScan_evolves (s : State) : Evolves s (countScan s) :=
  .modPfb (fun h => by dsimp only; split <;> simp [h]) id id

/-- R81: the staged slot that becomes active holds a record, and no slot is staged then. -/
theorem takeStaged_evolves (s : State) : Evolves s (takeStaged s) := by
  unfold takeStaged
  split
  · exact .refl s
  · rename_i slot hs
    refine (Evolves.modGrs rfl ?_).trans (setReseed_evolves _ _)
    rintro ⟨drive, geometry, len, ranges, _, staged, rest⟩
    refine ⟨drive, geometry, len, ranges, fun n hn => ?_, fun n hn => ?_, rest⟩
    · obtain rfl : slot = n := Option.some.inj hn
      exact (staged slot hs).1
    · simp at hn

theorem clearAcc_evolves (acc : Option AccId) (s : State) : Evolves s (clearAcc acc s) := by
  unfold clearAcc
  split
  · exact .refl s
  · rename_i a
    cases a <;> exact .modPfb id id id

/-- R92: a NORMAL scan is held from its start in CLEAR only. -/
theorem addContext_evolves {kind : ScanKind} (direction : Direction) (acc : Option AccId)
    (h : kind = .normal → s.bkm.state = .clear) : Evolves s (addContext kind direction acc s) :=
  .modPfb id id fun ⟨normal, sets⟩ => ⟨fun hs c hc => by
    rcases List.mem_append.1 hc with hc | hc
    · exact normal hs c hc
    · rw [List.mem_singleton.1 hc]
      exact fun hk => hs (h hk), sets⟩

theorem chooseKind_normal (h : chooseKind s = .normal) : s.bkm.state = .clear := by
  unfold chooseKind at h
  split at h
  · simp at h
  · split at h <;> simp_all

/-- R92: the scan that starts is held under the kind chosen for it. -/
theorem addChosen_evolves (direction : Direction) (acc : Option AccId) (s : State) :
    Evolves s (addContext (chooseKind s) direction acc (clearAcc acc s)) := by
  refine (clearAcc_evolves acc s).trans (addContext_evolves direction acc fun h => ?_)
  rw [(clearAcc_frame acc s).2.2.2.2.2.1]
  exact chooseKind_normal h

theorem profileScanStart_evolves (direction : Direction) (s : State) :
    Evolves s (profileScanStart direction s) := by
  have numbered : Evolves s (addPin (takeStaged (countScan s))) :=
    ((countScan_evolves s).trans (takeStaged_evolves _)).trans (.modGrs rfl id)
  have held := numbered.trans (addChosen_evolves direction
    (chooseAcc (chooseKind (addPin (takeStaged (countScan s)))) (addPin (takeStaged (countScan s)))) _)
  refine Evolves.trans ?_ ((Evolves.modGtu rfl id (.inl rfl)).trans (setUpWatch_evolves _ _ _ _))
  exact .ite (fun _ => held.trans (raiseFor_evolves _ _ _ _)) fun _ => held

/-- A map of the held scans that keeps their kinds. -/
theorem mapContexts_evolves {f : ScanContext → ScanContext} (kind : ∀ c, (f c).kind = c.kind) :
    Evolves s (s.modPfb fun p => { p with contexts := p.contexts.map f }) :=
  .modPfb id id fun ⟨normal, sets⟩ => ⟨fun hs c hc => by
    obtain ⟨x, hx, rfl⟩ := List.mem_map.1 hc
    rw [kind]
    exact normal hs x hx, sets⟩

theorem profileScanEnd_evolves (scan : Nat) (s : State) : Evolves s (profileScanEnd scan s) := by
  unfold profileScanEnd
  split
  · exact .refl s
  · exact .ite (fun _ => removeScans_evolves _ s) fun _ => mapContexts_evolves fun c => by split <;> rfl

theorem gateNotices_evolves (s : State) : Evolves s (gateNotices s) :=
  mapContexts_evolves fun c => by split <;> rfl

theorem completeScans_evolves (s : State) : Evolves s (completeScans s) :=
  mapContexts_evolves fun c => by split <;> rfl

/-- R97: a pass begins with step A, and no other runs, so the working set is still the published one. -/
theorem beginPass_evolves (s : State) : Evolves s (beginPass s) := by
  unfold beginPass
  split
  · rename_i c hp _
    refine .modPfb id id fun ⟨normal, sets⟩ => ⟨fun hs x hx => ?_, fun _ => ?_⟩
    · obtain ⟨y, hy, rfl⟩ := List.mem_map.1 hx
      have := normal hs y hy
      split <;> exact this
    · exact sets fun p h => by simp [hp] at h
  · exact .refl s

theorem passTests_evolves (s : State) : Evolves s (passTests s) :=
  ((gateNotices_evolves s).trans (completeScans_evolves _)).trans (beginPass_evolves _)

theorem engineTests_evolves (s : State) : Evolves s (engineTests s) :=
  (arbitrate_evolves s).trans (gateNotices_evolves _)

/-! ## Passes -/

/-- R104, R106: the steps in which the working set may differ from the published one. -/
abbrev workingApart (step : PassStep) : Prop := step = .filter ∨ step = .finish

/-- R97: a pass may be dropped where the working set is the published one. -/
theorem endPass_evolves (scan : Nat)
    (h : BreakKeepsProfile s → s.pfb.working = s.pfb.published) : Evolves s (endPass scan s) :=
  (Evolves.modPfb (f := fun p => { p with pass := none }) id id fun b => ⟨b.1, fun _ => h b⟩).trans
    (removeScans_evolves _ _)

/-- A pass before step D may move on within its steps. -/
theorem setPass_evolves {p q : PassRecord} (hp : s.pfb.pass = some p)
    (h : workingApart p.step → workingApart q.step) :
    Evolves s (s.modPfb fun b => { b with pass := some q }) :=
  .modPfb id id fun ⟨normal, sets⟩ => ⟨normal, fun hq => sets fun r hr => by
    obtain rfl : r = p := Option.some.inj (hr.symm.trans hp)
    have := hq q rfl
    by_contra hn
    exact absurd (h (by unfold workingApart; tauto)) (by unfold workingApart; tauto)⟩

theorem countPublished_evolves (s : State) : Evolves s (countPublished s) := by
  unfold countPublished
  split
  · exact .refl s
  · have counted (n : Nat) : Evolves s (s.modSdu fun u => { u with countdown := some (n - 1) }) :=
      .modSdu_aside rfl rfl
    exact .ite (fun _ => .refl s) fun _ =>
      .ite (fun _ => (counted _).trans (setWanted_evolves _)) fun _ => counted _

theorem applyConditions_evolves (scan : Nat) (l : List (AlarmKind × Option Nat)) (s : State) :
    Evolves s (l.foldl (applyCondition scan) s) := by
  induction l generalizing s with
  | nil => exact .refl s
  | cons c l ih =>
    refine Evolves.trans ?_ (ih _)
    unfold applyCondition
    split
    · exact raiseFor_evolves _ _ _ s
    · exact endAlarm_evolves _ s

theorem appendSummary_length (x : Summary) (l : List Summary) : (appendSummary x l).length ≤ 4 := by
  simp only [appendSummary, List.length_drop, List.length_append, List.length_singleton,
    Config.summaryQueueDepth]
  omega

theorem appendTrend_length (e : TrendEntry) (l : List TrendEntry) : (appendTrend e l).length ≤ 64 := by
  simp only [appendTrend, List.length_drop, List.length_append, List.length_singleton,
    Config.trendRingSize]
  omega

/-- R104: step E publishes the working set and drops the pass. -/
theorem finishPass_evolves (c : ScanContext) (g : GradeRecord) (entries : List SlotEntry)
    (p : PassRecord) (s : State) : Evolves s (finishPass c g entries p s) := by
  refine Evolves.trans ?_ (endPass_evolves _ ?_)
  · refine Evolves.trans ?_ (countPublished_evolves _)
    refine Evolves.trans ?_ (.modPlx id id)
    exact (applyConditions_evolves _ _ _).trans
      (.modPfb (fun _ => appendSummary_length _ _) id fun ⟨normal, _⟩ => ⟨normal, fun _ => rfl⟩)
  · intro _
    rw [(countPublished_frame _).2.2.2.2.1]
    rfl

theorem advanceTo_apart (Z : Nat) (following : PassStep) (p : PassRecord)
    (h : workingApart p.step → workingApart following) :
    workingApart p.step → workingApart (advanceTo Z following p).step := by
  unfold advanceTo
  dsimp only
  split
  · exact id
  · exact h

theorem afterEdges_evolves (c : ScanContext) (g : GradeRecord) (geo : Geometry) (p q : PassRecord)
    (hp : s.pfb.pass = some p) (hs : p.step = .edges) : Evolves s (afterEdges c g geo q s) := by
  have ended : Evolves s (endPass c.number s) :=
    endPass_evolves _ fun ⟨_, sets⟩ => sets fun r hr => by
      obtain rfl : r = p := Option.some.inj (hr.symm.trans hp)
      simp [hs]
  refine .ite (fun _ => ended.trans (probeReport_evolves _ _ _ _)) fun _ =>
    .ite (fun _ => ended.trans (edgeCollapse_evolves _ _ _)) fun _ => ?_
  exact setPass_evolves hp (by simp [workingApart, hs])

theorem runChunk_evolves (c : ScanContext) (g : GradeRecord) (geo : Geometry) {p : PassRecord}
    (hp : s.pfb.pass = some p) : Evolves s (runChunk c g geo p s) := by
  unfold runChunk
  dsimp only
  split
  case h_1 h => exact setPass_evolves hp (by simp [workingApart, h])
  case h_2 h => exact afterEdges_evolves c g geo p _ hp h
  case h_3 h => exact setPass_evolves hp (by simp [workingApart, h])
  case h_4 h =>
    refine .modPfb id id fun ⟨normal, sets⟩ => ⟨normal, fun hq => ?_⟩
    have := hq (advanceTo geo.Z .finish p) rfl
    have := advanceTo_apart geo.Z .finish p (fun _ => .inr rfl) (.inl h)
    unfold workingApart at this
    tauto
  case h_5 => exact finishPass_evolves _ _ _ _ _

theorem chunkResult_evolves (k : Chunk) (s : State) : Evolves s (chunkResult k s) := by
  unfold chunkResult
  split
  · exact .refl s
  · refine .ite (fun _ => ?_) fun _ => .refl s
    split
    · split
      · exact runChunk_evolves _ _ _ ‹_›
      · exact .refl s
    · exact .refl s

theorem passChunkComplete_evolves (s : State) : Evolves s (passChunkComplete s) := by
  unfold passChunkComplete
  split
  · exact ((Evolves.modCve.trans (chunkResult_evolves _ _)).trans (passTests_evolves _)).tested.trans
      (engineTests_evolves _)
  · exact .refl s

theorem storeResult_evolves (j : SampleJob) (s : State) : Evolves s (storeResult j s) := by
  unfold storeResult
  split
  · exact modEntry_evolves _ _ _ s
  · exact modEntry_evolves _ _ _ s
  · exact .ite (fun _ => .refl s) fun _ => .modPfb id (fun _ => appendTrend_length _ _) id

theorem sampleJobComplete_evolves (s : State) : Evolves s (sampleJobComplete s) := by
  unfold sampleJobComplete
  split
  · exact (((Evolves.modCve.trans (storeResult_evolves _ _)).trans (watchResult_evolves _ _ _)).trans
      (passTests_evolves _)).tested.trans (engineTests_evolves _)
  · exact .refl s

/-- R107: both profile sets are emptied alike. -/
theorem emptySets_evolves (Z : Nat) (s : State) : Evolves s (s.modPfb (emptySets Z)) :=
  .modPfb id id fun ⟨normal, _⟩ => ⟨normal, fun _ => rfl⟩

theorem watchOff_evolves (s : State) : Evolves s (watchOff s) := .modBkm rfl (fun _ => id) id

theorem clearProfiles_evolves (s : State) : Evolves s (clearProfiles s) :=
  ((removeScans_evolves _ s).trans (emptySets_evolves _ _)).trans
    ((setReseed_evolves _ _).trans (watchOff_evolves _))

theorem replaceGeometry_evolves {g : Geometry} (h : g.inRange = true) (s : State) :
    Evolves s (replaceGeometry g s) := by
  have placed : Evolves s (s.modGtu fun u => { u with geometry := some g, queue := [], held := none }) := by
    refine ⟨⟨fun ⟨_, _, rest⟩ => ⟨Nat.zero_le _, by simp, rest⟩, fun h => h.congr rfl (.inl rfl), id,
      fun ⟨drive, _, rest⟩ => ⟨drive, ?_, rest⟩, id⟩, fun _ => ⟨id, id, id⟩, fun _ => id, rfl⟩
    intro g' hg
    obtain rfl : g = g' := Option.some.inj hg
    exact h
  have emptied (t : State) : Evolves t (t.modPfb fun p =>
      { emptySets g.Z p with
        acc0 := List.replicate g.slotCount .cleared, acc1 := List.replicate g.slotCount .cleared
        summaries := [], trend := [] }) :=
    .modPfb (fun _ => Nat.zero_le _) (fun _ => Nat.zero_le _) fun ⟨normal, _⟩ => ⟨normal, fun _ => rfl⟩
  exact ((placed.trans (removeScans_evolves _ _)).trans (emptied _)).trans
    (Evolves.modCve.trans ((setReseed_evolves _ _).trans (watchOff_evolves _)))

/-! ## Gates -/

theorem closeGate_evolves (c : Comparator) (s : State) : Evolves s (closeGate c s) := by
  unfold closeGate
  split
  · exact capture_evolves s
  · split
    · exact capture_evolves s
    · exact (capture_evolves s).trans (place_evolves _ _)

theorem traverseScanStart_evolves (s : State) : Evolves s (traverseScanStart s) := by
  unfold traverseScanStart
  split
  · exact moveTo_evolves _ fun _ => .inl (by simp [*, referenced])
  · exact .refl s

theorem traverseScanEnd_evolves (s : State) : Evolves s (traverseScanEnd s) := by
  unfold traverseScanEnd
  split
  · exact moveTo_evolves _ fun _ => .inl (by simp [*, referenced])
  · exact moveTo_evolves _ fun _ => .inl (by simp [*, referenced])
  · exact .refl s

/-- R34: after what evolves the comparator may move on, if the head is in SCANNING then. -/
theorem Evolves.moveTarget {t : State} (h : Evolves s t) (c : Comparator)
    (scanning : TraverseSound s → isScanning t.trc.state = true) : Evolves s (moveTarget c t) where
  queues := h.queues
  traverse sound := (h.traverse sound).congr rfl (.inr (.inr (scanning sound)))
  alarms := h.alarms
  records sound := (h.records sound).congr rfl rfl rfl rfl rfl rfl rfl rfl rfl rfl
  breaks := h.breaks
  refs := h.refs
  cause := h.cause
  slots := h.slots

/-- R34: an armed comparator means SCANNING. -/
theorem TraverseSound.scanning {c : Comparator} (h : TraverseSound s)
    (armed : s.gtu.comparator = some c) : isScanning s.trc.state = true := by
  by_contra hn
  simp [h.2.2.2.2.2 (by simpa using hn)] at armed

theorem traverseScanStart_scanning (h : isScanning s.trc.state = true) :
    isScanning (traverseScanStart s).trc.state = true := by
  unfold traverseScanStart
  split
  · rw [moveTo_trc]
    rfl
  · exact h

theorem gateScanStart_evolves {c d : Comparator} (armed : s.gtu.comparator = some d) :
    Evolves s (gateScanStart c s) := by
  refine Evolves.moveTarget (((capture_evolves s).trans (traverseScanStart_evolves _)).trans
    (profileScanStart_evolves _ _)) c fun sound => ?_
  rw [(profileScanStart_frame _ _).1]
  exact traverseScanStart_scanning (sound.scanning armed)

theorem gateScanEnd_evolves (c : Comparator) (s : State) : Evolves s (gateScanEnd c s) := by
  have turned : Evolves s (traverseScanEnd ((closeGate c s).modGtu fun g =>
      { g with comparator := none, openScan := none })) :=
    ((closeGate_evolves c s).trans (.modGtu rfl id (.inr (.inl rfl)))).trans (traverseScanEnd_evolves _)
  unfold gateScanEnd
  dsimp only
  split
  · exact turned.trans (profileScanEnd_evolves _ _)
  · exact turned

theorem gateMatch_evolves (g : Geometry) {c : Comparator} (armed : s.gtu.comparator = some c) :
    Evolves s (gateMatch g c s) :=
  .ite (fun _ => gateScanStart_evolves armed) fun _ =>
    .ite (fun _ => gateScanEnd_evolves c s) fun _ =>
      (closeGate_evolves c s).moveTarget c fun sound => by
        rw [(closeGate_frame c s).1]
        exact sound.scanning armed

theorem compare_evolves (s : State) : Evolves s (compare s) := by
  unfold compare
  split
  · exact .ite
      (fun _ => ((gateMatch_evolves _ ‹_›).trans (passTests_evolves _)).tested.trans (engineTests_evolves _))
      fun _ => .refl s
  · exact .refl s

theorem reverseTo_evolves (direction : Direction) (target : Nat) (park : Bool)
    (h : isScanning s.trc.state = true) : Evolves s (reverseTo direction target park s) := by
  refine (moveTo_evolves _ fun _ => .inl ?_).trans (.modGtu rfl id (.inr (.inr (by rw [moveTo_trc]; rfl))))
  cases hs : s.trc.state <;> simp_all [isScanning, referenced]

theorem reversal_evolves (s : State) : Evolves s (reversal s) := by
  unfold reversal
  split
  · exact .ite (fun _ => reverseTo_evolves _ _ _ (by simp [*, isScanning])) fun _ => .refl s
  · refine .ite (fun _ => .ite (fun _ => ?_) fun _ => reverseTo_evolves _ _ _ (by simp [*, isScanning]))
      fun _ => .refl s
    exact (moveTo_evolves _ fun _ => .inl (by simp [*, referenced])).tested
  · exact .refl s

theorem encoderEdge_evolves (towardsFront : Bool) (s : State) : Evolves s (encoderEdge towardsFront s) :=
  ((Evolves.modTrc rfl id).trans (compare_evolves _)).trans (reversal_evolves _)

theorem pointTimerExpiry_evolves (s : State) : Evolves s (pointTimerExpiry s) := by
  have closed (periodMs : Nat) : Evolves s (closePointGate periodMs s) :=
    ((capture_evolves s).trans (.modGtu rfl id (.inl rfl))).trans (place_evolves _ _)
  unfold pointTimerExpiry
  split
  · exact ((closed _).trans (passTests_evolves _)).trans (engineTests_evolves _)
  · exact .refl s

theorem subGateExpiry_evolves (s : State) : Evolves s (subGateExpiry s) := by
  have closed (d : DwellRecord) : Evolves s (closeSubGate d s) := by
    unfold closeSubGate
    exact ((capture_evolves s).trans (.modSdu_aside rfl rfl)).trans (.modGtu rfl id (.inl rfl))
  unfold subGateExpiry
  split
  · exact ((closed _).trans (shutterFollow_evolves _)).trans (engineTests_evolves _)
  · exact .refl s

/-! ## The standardize unit -/

/-- R128, R129: against a nonzero reference a candidate 0 drifts by 1000, beyond every limit, and against none it is rejected: no channel adopts 0. -/
theorem judge_adopts_pos {dark saturated : Bool} {reference limit : Nat} {candidate : Option Nat}
    (limited : limit ≤ 500) (h : adopts (judge dark saturated reference limit candidate) = true) :
    ∃ c, candidate = some c ∧ c ≠ 0 := by
  unfold judge at h
  split at h
  · simp [adopts] at h
  split at h
  · simp [adopts] at h
  split at h
  · simp [adopts] at h
  rename_i c
  refine ⟨c, rfl, ?_⟩
  rintro rfl
  unfold judgeCandidate driftOf at h
  by_cases hr : reference = 0
  · simp [hr, adopts] at h
  · have drift : nearestUp (distance 0 reference * 1000) reference = 1000 := by
      have hpos : 0 < 2 * reference := by omega
      simp only [nearestUp, distance]
      rw [Nat.div_eq_iff hpos]
      omega
    have : limit < 1000 := by omega
    simp [hr, drift, this, adopts] at h

theorem judgementAlarms_evolves (channel : Nat) (c : StdChannel) (s : State) :
    Evolves s (judgementAlarms channel c s) :=
  .ite (fun _ => .refl s) fun _ =>
    .ite (fun _ => (raiseAlarm_evolves _ _ s).trans (raiseAlarm_evolves _ _ _))
      fun _ => raiseAlarm_evolves _ _ s

/-- R119: the limits in force. -/
theorem RecordsSound.limits (h : RecordsSound s) :
    s.sdu.settings.bwLimit ≤ 500 ∧ s.sdu.settings.moiLimit ≤ 500 ∧ s.sdu.settings.calLimit ≤ 500 := by
  have := h.2.2.2.2.2.2.1
  simp only [StdSettings.inRange, Bool.and_eq_true, decide_eq_true_eq] at this
  tauto

theorem judgeBw_evolves (d : DwellRecord) (e : Evaluation) (s : State) : Evolves s (judgeBw d e s) := by
  refine Evolves.trans (.modSdu rfl fun sound => ?_) (judgementAlarms_evolves _ _ _)
  dsimp only
  split
  · rename_i h
    obtain ⟨c, hc, hpos⟩ := judge_adopts_pos sound.limits.1 h
    exact ⟨fun _ => by simpa [Option.some.inj hc] using hpos, id, id⟩
  · exact ⟨id, id, id⟩

theorem judgeMoi_evolves (d : DwellRecord) (e : Evaluation) (s : State) : Evolves s (judgeMoi d e s) := by
  refine Evolves.trans (.modSdu rfl fun sound => ?_) (judgementAlarms_evolves _ _ _)
  dsimp only
  split
  · rename_i h
    obtain ⟨c, hc, hpos⟩ := judge_adopts_pos sound.limits.2.1 h
    exact ⟨id, fun _ => by simpa [hc] using hpos, id⟩
  · exact ⟨id, id, id⟩

theorem judgeCal_evolves (d : DwellRecord) (e : Evaluation) (s : State) : Evolves s (judgeCal d e s) := by
  refine Evolves.trans (.modSdu rfl fun sound => ?_) (judgementAlarms_evolves _ _ _)
  dsimp only
  split
  · rename_i h
    obtain ⟨c, hc, hpos⟩ := judge_adopts_pos sound.limits.2.2 h
    exact ⟨id, id, fun _ => by simpa [Option.some.inj hc] using hpos⟩
  · exact ⟨id, id, id⟩

theorem judgement_evolves (d : DwellRecord) (e : Evaluation) (s : State) : Evolves s (judgement d e s) := by
  have judged := ((judgeBw_evolves d e s).trans (judgeMoi_evolves d e _)).trans (judgeCal_evolves d e _)
  exact .ite (fun _ => judged) fun _ => judged.trans (endAlarm_evolves _ _)

theorem dwellEnds_evolves (s : State) : Evolves s (dwellEnds s) := by
  unfold dwellEnds
  split
  · exact enterScanning_evolves (.inl (by simp [*, referenced]))
  · exact moveTo_evolves _ fun _ => .inl (by simp [*, referenced])
  · exact .refl s

theorem evaluationComplete_evolves (s : State) : Evolves s (evaluationComplete s) := by
  have completed (t : State) : Evolves t (completeStandardize t) :=
    (Evolves.modSdu_aside rfl rfl).trans (dwellEnds_evolves _)
  unfold evaluationComplete
  split
  · refine Evolves.trans ?_ (engineTests_evolves _)
    refine Evolves.trans (.modCve (f := fun c => { c with job := none })) ?_
    unfold evaluationResult
    split
    · exact .ite (fun _ => .refl _) fun _ =>
        (((judgement_evolves _ _ _).trans (completed _)).trans (shutterFollow_evolves _)).tested
    · exact .refl _
  · exact .refl s

theorem supervise_evolves (s : State) : Evolves s (supervise s) := by
  refine .ite (fun _ => ?_) fun _ => ?_ <;> split
  · exact shutterAgrees_evolves s
  · exact shutterAgrees_evolves s
  · exact .refl s
  · exact (shutterFails_evolves s).tested
  · exact .refl s
  · exact .refl s

theorem confirmSettled_evolves (s : State) : Evolves s (confirmSettled s) := by
  have marked (shown : Bool) (t : State) : Evolves t (markConfirm shown t) :=
    .ite (fun _ => .modSdu_aside rfl rfl) fun _ => .modGtu rfl id (.inl rfl)
  unfold confirmSettled
  split
  · exact .refl s
  · exact ((Evolves.modSdu_aside rfl rfl).trans (marked _ _)).trans (supervise_evolves _)

theorem windowExpiry_evolves (s : State) : Evolves s (windowExpiry s) := by
  unfold windowExpiry
  split
  · exact .ite (fun _ => shutterAgrees_evolves s) fun _ => (shutterFails_evolves s).tested
  · exact .refl s
  · exact .refl s

/-! ## Plant lines -/

theorem interlockLoss_evolves (s : State) : Evolves s (interlockLoss s) :=
  Evolves.trans (.ite (fun _ => .refl s) fun _ => raiseAlarm_evolves _ _ s) (haltOrder_evolves _)

/-- R167: forming the interlock makes it the one the lines form, whatever the lines have become. -/
theorem formInterlock_evolves_of {t : State}
    (h : Evolves s (t.modPlx fun p => { p with interlock := interlockFormed p.inputs })) :
    Evolves s (formInterlock t) := by
  unfold formInterlock
  dsimp only
  split
  · exact (h.trans (interlockLoss_evolves _)).tested
  · exact (h.trans (endAlarm_evolves _ _)).tested
  · exact h
  · exact h

theorem formInterlock_evolves (s : State) : Evolves s (formInterlock s) :=
  formInterlock_evolves_of (.modPlx id fun _ => rfl)

theorem formLevelCondition_evolves (s : State) : Evolves s (formLevelCondition s) := by
  have formed : Evolves s (s.modBkm fun b =>
      { b with levelCondition := s.plx.inputs.any levelBreakActive }) := .modBkm rfl (fun _ => id) id
  unfold formLevelCondition
  dsimp only
  split
  · exact (formed.trans (inputCause_evolves _ _)).tested
  · exact formed.tested
  · exact formed
  · exact formed

/-- A line that is no INTERLOCK line before nor after leaves the interlock the lines form. -/
theorem interlockFormed_set {lines : List InputLine} {line : Nat} {l l' : InputLine}
    (h : lines[line]? = some l)
    (same : (l'.setting.role != .interlock || lineActive l') = (l.setting.role != .interlock || lineActive l)) :
    interlockFormed (lines.set line l') = interlockFormed lines := by
  obtain ⟨hlt, rfl⟩ := List.getElem?_eq_some_iff.1 h
  have shape : lines = lines.take line ++ lines[line] :: lines.drop (line + 1) := by simp
  unfold interlockFormed
  rw [List.set_eq_take_append_cons_drop, if_pos hlt]
  conv_rhs => rw [shape]
  simp only [List.all_append, List.all_cons, same]

/-- R163: a line put in place of one that forms the interlock as it does. -/
theorem setLine_evolves {line : Nat} {l l' : InputLine} (h : s.plx.inputs[line]? = some l)
    (same : (l'.setting.role != .interlock || lineActive l') = (l.setting.role != .interlock || lineActive l)) :
    Evolves s (setLine line l' s) :=
  .modPlx id fun formed => by
    rw [formed]
    exact (interlockFormed_set h same).symm

theorem inputRawChange_evolves (line : Nat) (high : Bool) (s : State) :
    Evolves s (inputRawChange line high s) := by
  unfold inputRawChange
  split
  · exact .refl s
  · rename_i hl
    exact .ite (fun _ => .refl s) fun _ => setLine_evolves hl (by rfl)

theorem breakEdge_evolves (line : Nat) (mode : InputMode) (leading : Bool) (s : State) :
    Evolves s (breakEdge line mode leading s) :=
  .ite (fun _ => formLevelCondition_evolves s) fun _ =>
    .ite (fun _ => (inputCause_evolves _ s).tested) fun _ => .refl s

/-- R167: a line put in place by an INTERLOCK line's change, with the interlock formed anew. -/
theorem setLine_formInterlock_evolves (line : Nat) (l : InputLine) (s : State) :
    Evolves s (formInterlock (setLine line l s)) :=
  formInterlock_evolves_of (.modPlx (f := fun p =>
    { p with inputs := p.inputs.set line l, interlock := interlockFormed (p.inputs.set line l) }) id fun _ => rfl)

theorem establishConsequences_evolves (setting : InputSetting) (s : State) :
    Evolves s (establishConsequences setting s) := by
  unfold establishConsequences
  split
  · exact formInterlock_evolves s
  · exact .ite (fun _ => formLevelCondition_evolves s) fun _ => .refl s
  all_goals exact .refl s

theorem edgeConsequences_evolves (line : Nat) (setting : InputSetting) (leading : Bool) (s : State) :
    Evolves s (edgeConsequences line setting leading s) := by
  unfold edgeConsequences
  split
  · exact formInterlock_evolves s
  · exact breakEdge_evolves _ _ _ s
  · exact .ite (fun _ => (setWanted_evolves s).tested) fun _ => .refl s
  all_goals exact .refl s

/-- R163: a line with a new level, followed by its consequences: those of an INTERLOCK line form the interlock anew, any other line has no part in it. -/
theorem setLine_consequences_evolves {line : Nat} {l l' : InputLine} {after : State → State}
    (h : s.plx.inputs[line]? = some l) (setting : l'.setting = l.setting)
    (interlock : l.setting.role = .interlock → after = formInterlock)
    (evolves : ∀ t, Evolves t (after t)) : Evolves s (after (setLine line l' s)) := by
  by_cases hr : l.setting.role = .interlock
  · rw [interlock hr]
    exact setLine_formInterlock_evolves _ _ s
  · refine (setLine_evolves h ?_).trans (evolves _)
    rw [setting, bne_iff_ne.2 hr]
    rfl

theorem takeLevel_evolves (line : Nat) (s : State) : Evolves s (takeLevel line s) := by
  unfold takeLevel
  split
  · exact .refl s
  rename_i l hl
  dsimp only
  split
  · exact setLine_consequences_evolves (after := establishConsequences l.setting) hl rfl
      (fun hr => by funext t; simp [establishConsequences, hr])
      (establishConsequences_evolves _)
  · exact .ite (fun _ => .refl s) fun _ =>
      setLine_consequences_evolves (after := edgeConsequences line l.setting _) hl rfl
        (fun hr => by funext t; simp [edgeConsequences, hr])
        (edgeConsequences_evolves _ _ _)

theorem takeIfDue_evolves (s : State) (line : Nat) : Evolves s (takeIfDue s line) := by
  unfold takeIfDue
  split
  · exact .ite (fun _ => takeLevel_evolves _ s) fun _ => .refl s
  · exact .refl s

theorem takeDue_evolves (lines : List Nat) (s : State) : Evolves s (lines.foldl takeIfDue s) := by
  induction lines generalizing s with
  | nil => exact .refl s
  | cons i l ih => exact (takeIfDue_evolves s i).trans (ih _)

theorem setLines_evolves (r : LineRecord) (s : State) : Evolves s (setLines r s) := by
  have formed : Evolves s (formInterlock (s.modPlx (replaceSettings r))) :=
    formInterlock_evolves_of (.modPlx (f := fun p =>
      { replaceSettings r p with interlock := interlockFormed (replaceSettings r p).inputs }) id fun _ => rfl)
  exact (formed.trans (formLevelCondition_evolves _)).trans (takeDue_evolves _ _)

end Sys2Proof.Machine
end

section
/-! PROOFS. What the traverse controller's own events keep. -/

namespace Sys2Proof.Machine
variable {s : State}

/-! ## The traverse controller's events -/

/-- An update of the traverse controller that keeps state, homed, buffer and duty. -/
theorem modTrc_aside_evolves {f : Traverse → Traverse} (drive : (f s.trc).drive = s.trc.drive)
    (state : (f s.trc).state = s.trc.state) (homed : (f s.trc).homed = s.trc.homed)
    (buffer : (f s.trc).buffer = s.trc.buffer) (duty : (f s.trc).duty = s.trc.duty)
    (off : (f s.trc).offTime.isSome = true → s.trc.offTime.isSome = true) : Evolves s (s.modTrc f) := by
  refine .modTrc drive fun ⟨ref, zero, stood, rest⟩ => ?_
  unfold TraverseSound
  simp only [State.modTrc_trc, State.modTrc_gtu, state, homed, buffer, duty]
  exact ⟨ref, zero, fun h => stood (off h), rest⟩

theorem arriveToScan_evolves (h : referenced s.trc.state = true) : Evolves s (arriveToScan s) :=
  .ite (fun _ => enterDwell_evolves _ (.inl h)) fun _ => enterScanning_evolves (.inl h)

/-- R14: homing ends in PARKED, which makes the head homed in the same event. -/
theorem homed_at_park_evolves {step : HomingStep} (h : s.trc.state = .homing step) :
    Evolves s ((moveTo .parked s).modTrc fun t => { t with homed := true }) := by
  have moved : Evolves s (moveTo .parked (s.modTrc fun t => { t with homed := true })) :=
    (Evolves.modTrc rfl fun ⟨_, rest⟩ => ⟨fun _ => rfl, rest⟩).trans (moveTo_evolves _ fun _ => .inr rfl)
  have hs : isScanning s.trc.state = false := by simp [h, isScanning]
  have hp : isPoint s.trc.state = false := by simp [h, isPoint]
  rw [moveTo_of_not_leaving _ (by exact hs) (by exact hp)] at moved
  rwa [moveTo_of_not_leaving _ hs hp]

theorem arrival_evolves (s : State) : Evolves s (arrival s) := by
  unfold arrival
  split
  · exact (arriveToScan_evolves (by simp [*, referenced])).tested
  · exact (moveTo_evolves _ fun _ => .inl (by simp [*, referenced])).tested
  · exact (enterPoint_evolves _ _ (.inl (by simp [*, referenced]))).tested
  · exact (homed_at_park_evolves ‹_›).tested
  · exact .refl s

theorem arrivalTest_evolves (s : State) : Evolves s (arrivalTest s) := by
  unfold arrivalTest
  split
  · exact .ite (fun _ => arrival_evolves s) fun _ => .refl s
  · exact .refl s

theorem haltTest_evolves (s : State) : Evolves s (haltTest s) := by
  unfold haltTest
  split
  · exact .ite (fun _ => (moveTo_evolves _ fun h => by simp [referenced] at h).tested) fun _ => .refl s
  · exact .refl s

/-- R14: the move to P starts within HOMING. -/
theorem startToPark_cases (t : Traverse) :
    startToPark t = t ∨ t.state = .homing (.toPark false)
      ∧ startToPark t = { t with state := .homing (.toPark true) } := by
  unfold startToPark
  split
  · split
    · exact .inr ⟨‹_›, rfl⟩
    · exact .inl rfl
  · exact .inl rfl

theorem startToPark_loopRuns (t : Traverse) : loopRuns (startToPark t).state = loopRuns t.state := by
  rcases startToPark_cases t with h | ⟨hs, h⟩
  · rw [h]
  · rw [h, hs]
    rfl

/-- A change of the step within HOMING, with homed and position free. -/
theorem homingStep_evolves {f : Traverse → Traverse} {step : HomingStep}
    (h : s.trc.state = .homing step) (state : ∃ next, (f s.trc).state = .homing next)
    (drive : (f s.trc).drive = s.trc.drive) (off : (f s.trc).offTime = s.trc.offTime)
    (buffer : (f s.trc).buffer = s.trc.buffer) (duty : (f s.trc).duty = s.trc.duty) :
    Evolves s (s.modTrc f) := by
  obtain ⟨next, hn⟩ := state
  refine .modTrc drive fun sound => ?_
  unfold TraverseSound at *
  simp only [State.modTrc_trc, State.modTrc_gtu, hn, off, buffer, duty]
  obtain ⟨_, _, stood, hb, hd, idle⟩ := sound
  exact ⟨by simp [referenced], by simp [loopRuns], stood, hb, hd, fun _ => idle (by simp [h, isScanning])⟩

theorem startToPark_evolves (s : State) : Evolves s (s.modTrc startToPark) := by
  rcases startToPark_cases s.trc with h | ⟨hs, h⟩
  · exact modTrc_aside_evolves (by rw [h]) (by rw [h]) (by rw [h]) (by rw [h]) (by rw [h]) (by rw [h]; exact id)
  · exact homingStep_evolves hs (by rw [h]; exact ⟨_, rfl⟩) (by rw [h]) (by rw [h]) (by rw [h]) (by rw [h])

theorem loopBuffer_range (kp : Nat) (buffer vSet vMeas : Int) :
    -1023 ≤ loopBuffer kp buffer vSet vMeas ∧ loopBuffer kp buffer vSet vMeas ≤ 1023 := by
  simp only [loopBuffer, clampInt, Config.dutyMax]
  omega

theorem loopUpdate_evolves (vSet : Int) (h : loopRuns s.trc.state = true) :
    Evolves s (s.modTrc (loopUpdate vSet)) := by
  refine .modTrc rfl fun ⟨ref, _, off, _, duty, idle⟩ => ⟨ref, fun hr => ?_, off, ?_, duty, idle⟩
  · exact absurd (h.symm.trans hr) (by simp)
  · exact loopBuffer_range _ _ _ _

theorem speedLoopRun_evolves (s : State) : Evolves s (speedLoopRun s) := by
  have formed : Evolves s (s.modTrc formSpeed) := modTrc_aside_evolves rfl rfl rfl rfl rfl id
  refine .ite (fun h => ?_) fun _ => formed
  refine (formed.trans (startToPark_evolves _)).trans (((loopUpdate_evolves _ ?_).trans
    (arrivalTest_evolves _)).trans (haltTest_evolves _))
  rw [← h]
  exact startToPark_loopRuns _

theorem faultNow_evolves (kind : FaultKind) (s : State) : Evolves s (faultNow kind s) :=
  (enterFaulted_evolves kind s).tested

theorem pwmPeriodStart_evolves (s : State) : Evolves s (s.modTrc pwmPeriodStart) := by
  refine .modTrc rfl fun ⟨ref, zero, off, buffer, duty, idle⟩ => ⟨ref, ?_, ?_, buffer, ?_, idle⟩
  · intro hr
    have hr' : loopRuns s.trc.state = false := hr
    exact ⟨(zero hr').1, by simp [pwmPeriodStart, hr']⟩
  · intro ho
    have ho' : s.trc.offTime.isSome = true := ho
    simp [pwmPeriodStart, Option.isNone_iff_eq_none, Option.isSome_iff_ne_none.1 ho']
  · simp only [State.modTrc_trc, pwmPeriodStart]
    split
    · exact buffer
    · simp

theorem currentTrip_evolves (s : State) : Evolves s (currentTrip s) := by
  have tripped : Evolves s (s.modTrc tripDrive) := .modTrc rfl fun ⟨ref, zero, _, buffer, _, idle⟩ =>
    ⟨ref, fun hr => ⟨(zero hr).1, rfl⟩, fun _ => rfl, buffer, by simp [tripDrive], idle⟩
  exact .ite (fun _ => .refl s) fun _ =>
    .ite (fun _ => tripped.trans (faultNow_evolves _ _)) fun _ => tripped

theorem limitEdge_evolves (s : State) : Evolves s (limitEdge s) := by
  unfold limitEdge
  split
  · exact faultNow_evolves _ s
  · rename_i kind h
    refine Evolves.trans (.modTrc rfl ?_) (raiseAlarm_evolves _ _ _)
    exact fun ⟨_, rest⟩ => ⟨by simp [h, referenced], rest⟩
  all_goals exact faultNow_evolves _ s

theorem homeEdge_evolves (active : Bool) (s : State) : Evolves s (homeEdge active s) := by
  unfold homeEdge
  split
  · exact homingStep_evolves ‹_› ⟨_, rfl⟩ rfl rfl rfl rfl
  · exact homingStep_evolves ‹_› ⟨_, rfl⟩ rfl rfl rfl rfl
  · exact .refl s

theorem withSwitch_evolves (switch : FrameSwitch) (d : Traverse → Debounced) (s : State) :
    Evolves s (s.modTrc fun t => t.withSwitch switch (d t)) := by
  cases switch <;> exact modTrc_aside_evolves rfl rfl rfl rfl rfl id

theorem switchSettled_evolves (switch : FrameSwitch) (s : State) : Evolves s (switchSettled switch s) := by
  unfold switchSettled
  dsimp only
  split
  · exact .refl s
  · have settled := withSwitch_evolves switch (fun _ => settle (s.trc.switch switch)) s
    refine .ite (fun _ => settled) fun _ => settled.trans ?_
    unfold switchEdge
    split
    · exact homeEdge_evolves _ _
    all_goals exact .ite (fun _ => limitEdge_evolves _) fun _ => .refl _

end Sys2Proof.Machine
end

section
/-! PROOFS. What the owners' answers to the requests keep. -/

namespace Sys2Proof.Machine
variable {s : State}

/-! ## The requests -/

theorem plain_state (code : ReplyCode) (s : State) : (plain code s).state = s := rfl

theorem answered_state (record : List Byte) (s : State) : (answered record s).state = s := rfl

theorem clearHold_evolves (s : State) : Evolves s (clearHold s) :=
  modTrc_aside_evolves rfl rfl rfl rfl rfl id

theorem wantIfNoAir_evolves (s : State) : Evolves s (wantIfNoAir s) :=
  .ite (fun _ => setWanted_evolves s) fun _ => .refl s

theorem enterHoming_evolves (s : State) : Evolves s (enterHoming s) := by
  unfold enterHoming
  refine (moveTo_evolves _ fun h => by simp [referenced] at h).trans
    (.modTrc rfl fun ⟨_, rest⟩ => ⟨fun h => ?_, rest⟩)
  simp [moveTo_trc, enterState, referenced] at h

theorem answerHome_evolves (s : State) : Evolves s (answerHome s).state := by
  have entered : Evolves s (enterHoming (clearHold s)) :=
    (clearHold_evolves s).trans (enterHoming_evolves _)
  unfold answerHome
  (repeat' split)
  · exact .refl s
  · exact .refl s
  · exact .refl s
  · exact entered

theorem scanByState_evolves (homed : s.trc.homed = true) : Evolves s (scanByState s).state := by
  have ready : Evolves s (wantIfNoAir (clearHold s)) :=
    (clearHold_evolves s).trans (wantIfNoAir_evolves _)
  have homed' : (wantIfNoAir (clearHold s)).trc.homed = true := by
    rw [(wantIfNoAir_frame _).1]
    exact homed
  have moved (new : TraverseState) : Evolves s (moveTo new (wantIfNoAir (clearHold s))) :=
    ready.trans (moveTo_evolves _ fun _ => .inr homed')
  unfold scanByState
  dsimp only
  split
  · exact (Evolves.ite (fun _ => ready.trans (enterDwell_evolves _ (.inr homed')))
      fun _ => ready.trans (enterScanning_evolves (.inr homed'))).tested
  · exact (moved _).tested
  · exact (moved _).tested
  · exact moved _
  · exact moved _
  · exact moved _
  all_goals exact .refl s

theorem answerScan_evolves (body : List Byte) (s : State) : Evolves s (answerScan body s).state := by
  unfold answerScan
  split
  · exact .refl s
  split
  · exact .refl s
  split
  · exact .refl s
  rename_i ready
  have homed : s.trc.homed = true := by simp_all [scanNotReady]
  split
  · exact .refl s
  unfold scanInBreak
  split
  · exact scanByState_evolves homed
  · exact ((clearHold_evolves s).trans (expireDelay_evolves (by assumption))).tested
  all_goals exact .refl s

theorem parkByState_evolves (homed : s.trc.homed = true) : Evolves s (parkByState s).state := by
  have moved (new : TraverseState) : Evolves s (moveTo new (clearHold s)) :=
    (clearHold_evolves s).trans (moveTo_evolves _ fun _ => .inr homed)
  unfold parkByState
  dsimp only
  split
  case h_1 | h_5 | h_6 | h_8 => exact moved _
  case h_2 | h_3 | h_4 => exact (moved _).tested
  case h_7 => exact (clearHold_evolves s).tested
  all_goals exact .refl s

theorem answerPark_evolves (s : State) : Evolves s (answerPark s).state := by
  unfold answerPark
  split
  · exact .refl s
  split
  · exact .refl s
  rename_i homed
  split
  · exact .refl s
  exact parkByState_evolves (by simpa using homed)

theorem answerStop_evolves (s : State) : Evolves s (answerStop s).state := by
  unfold answerStop
  split
  case h_5 =>
    exact ((abortDwell_evolves s).trans (moveTo_evolves _ fun h => by simp [referenced] at h)).tested
  case h_6 => exact (moveTo_evolves _ fun h => by simp [referenced] at h).tested
  case h_7 | h_8 | h_9 => exact .refl s
  all_goals
    exact ((abortOpenScan_evolves s).trans (moveTo_evolves _ fun h => by simp [referenced] at h)).tested

theorem answerPoint_evolves (body : List Byte) (s : State) : Evolves s (answerPoint body s).state := by
  unfold answerPoint
  dsimp only
  split
  · exact .refl s
  split
  · exact .refl s
  split
  · exact .refl s
  rename_i ready
  have homed : s.trc.homed = true := by simp_all
  split
  · exact .refl s
  split
  · exact .refl s
  unfold pointByState
  split
  case h_1 | h_2 | h_3 => exact (moveTo_evolves _ fun _ => .inr homed).tested
  all_goals exact .refl s

theorem answerClearFault_evolves (s : State) : Evolves s (answerClearFault s).state := by
  unfold answerClearFault
  split
  · exact (moveTo_evolves _ fun h => by simp [referenced] at h).trans
      (((endAlarm_evolves _ _).trans (endAlarm_evolves _ _)).trans
        ((endAlarm_evolves _ _).trans (endAlarm_evolves _ _)))
  · exact .refl s

theorem answerSetDrive_evolves (body : List Byte) (s : State) :
    Evolves s (answerSetDrive body s).state := by
  unfold answerSetDrive
  dsimp only
  split
  · exact .refl s
  split
  · exact .refl s
  rename_i ranged _
  exact ⟨⟨id, id, id, fun ⟨_, rest⟩ => ⟨by simpa using ranged, rest⟩, id⟩, fun _ => ⟨id, id, id⟩,
    fun _ => id, rfl⟩

theorem answerSetGeometry_evolves (body : List Byte) (s : State) :
    Evolves s (answerSetGeometry body s).state := by
  unfold answerSetGeometry
  dsimp only
  split
  · exact .refl s
  split
  · exact .refl s
  rename_i ranged _
  have left : Evolves s (leaveOldPark (readGeometry body) s) :=
    .ite (fun _ => moveTo_evolves _ fun h => by simp [referenced] at h) fun _ => .refl s
  exact (left.trans (replaceGeometry_evolves (by simpa using ranged) _)).tested

/-- R79: a selected slot holds a record. -/
theorem answerSelectGrade_evolves (body : List Byte) (s : State) :
    Evolves s (answerSelectGrade body s).state := by
  have unstaged : Evolves s (s.modGrs fun g => { g with staged := none }) :=
    .modGrs rfl fun ⟨drive, geometry, len, ranges, active, _, rest⟩ =>
      ⟨drive, geometry, len, ranges, active, by simp, rest⟩
  unfold answerSelectGrade
  dsimp only
  split
  · exact .refl s
  rename_i named
  have filled : (gradeIn s (u8 body 0)).isSome = true := by
    simp only [Bool.or_eq_true, not_or, Bool.not_eq_true, Option.isNone_eq_false_iff] at named
    exact named.2
  split
  · unfold selectScanning
    split
    · exact unstaged
    · rename_i other
      rw [plain_state]
      refine .modGrs rfl fun ⟨drive, geometry, len, ranges, active, _, rest⟩ =>
        ⟨drive, geometry, len, ranges, active, fun n hn => ?_, rest⟩
      obtain rfl : u8 body 0 = n := Option.some.inj hn
      exact ⟨filled, by simpa using other⟩
  · unfold selectNow
    split
    · exact unstaged
    · have selected : Evolves s (s.modGrs fun g => { g with active := some (u8 body 0), staged := none }) := by
        refine .modGrs rfl fun ⟨drive, geometry, len, ranges, _, _, rest⟩ =>
          ⟨drive, geometry, len, ranges, fun n hn => ?_, by simp, rest⟩
        obtain rfl : u8 body 0 = n := Option.some.inj hn
        exact filled
      exact (selected.trans (setReseed_evolves _ _)).tested

theorem answerSetStandardize_evolves (body : List Byte) (s : State) :
    Evolves s (answerSetStandardize body s).state := by
  unfold answerSetStandardize
  dsimp only
  split
  · exact .refl s
  split
  · exact .refl s
  rename_i ranged _
  exact ⟨⟨id, id, id, fun ⟨drive, geometry, len, ranges, active, staged, _, rest⟩ =>
    ⟨drive, geometry, len, ranges, active, staged, by simpa [replaceSettingsRecord] using ranged, rest⟩, id⟩,
    fun _ => ⟨id, id, id⟩, fun _ => id, rfl⟩

theorem answerStandardize_evolves (s : State) : Evolves s (answerStandardize s).state := by
  unfold answerStandardize
  (repeat' split)
  · exact .refl s
  · exact .refl s
  · exact ((clearHold_evolves s).trans (setWanted_evolves _)).tested

theorem answerSetBreak_evolves (body : List Byte) (s : State) :
    Evolves s (answerSetBreak body s).state := by
  unfold answerSetBreak
  dsimp only
  split
  · exact .refl s
  rename_i ranged
  exact ⟨⟨id, id, id, fun ⟨drive, geometry, len, ranges, active, staged, std, _, rest⟩ =>
    ⟨drive, geometry, len, ranges, active, staged, std,
      by simp only [Bool.or_eq_true, decide_eq_true_eq, not_or, Nat.not_lt] at ranged; exact ranged, rest⟩, id⟩,
    fun _ => ⟨id, id, id⟩, fun _ => id, rfl⟩

theorem answerService_evolves (body : List Byte) (s : State) :
    Evolves s (answerService body s).state := by
  unfold answerService
  dsimp only
  split
  · exact .refl s
  · rw [plain_state]
    exact .modSlp fun _ => by dsimp only; omega

theorem answerAckAlarm_evolves (body : List Byte) (s : State) :
    Evolves s (answerAckAlarm body s).state := by
  have acknowledged (selects : AlarmKind → Bool) : Evolves s (acknowledge selects s).state := by
    rw [acknowledge, plain_state]
    exact .modPlx (ackIn_sound selects) id
  unfold answerAckAlarm
  split
  · exact acknowledged _
  · split
    · exact acknowledged _
    · exact .refl s

theorem answerReadLines_evolves (s : State) : Evolves s (answerReadLines s).state := by
  rw [answerReadLines, answered_state]
  exact .modPlx id fun formed => by
    simpa [interlockFormed, List.all_map, Function.comp_def, lineActive, lineState] using formed

/-- R77, R129, R156: no nonzero reference, no cause of a break in progress and no record of a slot in use is lost. -/
structure Retains (s t : State) : Prop where
  refs : RefsKept s.sdu.refs t.sdu.refs
  cause : ∀ c, s.bkm.state ≠ .clear → s.bkm.cause = some c → t.bkm.cause = some c
  slots : ∀ slot, slotInUse s slot = true → gradeIn t slot = gradeIn s slot

/-- What a command other than a power-on reset does. -/
structure Acts (s t : State) : Prop extends Keeps s t where
  retains : RecordsSound s → Retains s t

theorem Evolves.acts {t : State} (h : Evolves s t) : Acts s t where
  toKeeps := h.toKeeps
  retains sound := ⟨h.refs sound, fun c _ => h.cause c, fun _ _ => by rw [gradeIn, gradeIn, h.slots]⟩

/-- R76: LOAD_GRADE writes a record within its ranges into a slot that is not in use. -/
theorem answerLoadGrade_acts (body : List Byte) (s : State) : Acts s (answerLoadGrade body s).state := by
  unfold answerLoadGrade
  split
  · exact (Evolves.refl s).acts
  rename_i b _
  split
  · exact (Evolves.refl s).acts
  rename_i ranged
  split
  · exact (Evolves.refl s).acts
  rename_i unused
  simp only [Bool.or_eq_true, not_or, Bool.not_eq_true', Bool.not_eq_false, Bool.not_eq_true] at ranged unused
  rw [plain_state]
  have other {slot : Nat} (h : slotInUse s slot = true) :
      gradeIn (s.modGrs fun g => { g with slots := g.slots.set b.slot (some b.record) }) slot = gradeIn s slot := by
    have : b.slot ≠ slot := fun e => by simp [e, h] at unused
    simp [gradeIn, this]
  refine ⟨⟨id, id, id, fun ⟨drive, geometry, len, ranges, active, staged, rest⟩ =>
    ⟨drive, geometry, ?_, ?_, fun n hn => ?_, fun n hn => ⟨?_, (staged n hn).2⟩, rest⟩, id⟩,
    fun _ => ⟨⟨id, id, id⟩, fun _ _ => id, fun _ => other⟩⟩
  · simpa using len
  · intro r hr
    rcases List.mem_or_eq_of_mem_set hr with hr | hr
    · exact ranges r hr
    · rw [Option.some.inj hr]
      exact ranged.2
  · have hn : s.grs.active = some n := hn
    rw [other (by simp [slotInUse, hn])]
    exact active n hn
  · have hn : s.grs.staged = some n := hn
    rw [other (by simp [slotInUse, hn])]
    exact (staged n hn).1

/-- R156: the cause record is cleared in CLEAR only. -/
theorem answerClearBreakCause_acts (s : State) : Acts s (answerClearBreakCause s).state := by
  unfold answerClearBreakCause
  split
  · rename_i h
    exact ⟨⟨id, id, id, id, id⟩,
      fun _ => ⟨⟨id, id, id⟩, fun _ hn => absurd (eq_of_beq h) hn, fun _ _ => rfl⟩⟩
  · exact (Evolves.refl s).acts

theorem answerStatus_evolves (s : State) : Evolves s (answerStatus s).state := by
  rw [answerStatus, answered_state]
  exact .modSlp id

theorem answerResetPart_evolves (s : State) : Evolves s (answerResetPart s).state := by
  unfold answerResetPart
  split
  · rw [plain_state]
    exact .modSlp id
  · exact .refl s

/-- READ_GRADE, READ_PROFILE and READ_TREND leave the state they find. -/
theorem answerReads_state (body : List Byte) (s : State) :
    (answerReadGrade body s).state = s ∧ (answerReadProfile body s).state = s
      ∧ (answerReadTrend body s).state = s := by
  unfold answerReadGrade answerReadProfile readProfileOf answerReadTrend
  dsimp only
  refine ⟨?_, ?_, ?_⟩ <;> (repeat' split) <;> rfl

theorem answerFetchSummary_evolves (s : State) : Evolves s (answerFetchSummary s).state := by
  unfold answerFetchSummary
  split
  · exact .refl s
  · rename_i x rest h
    rw [answered_state]
    exact .modPfb (fun hl => by rw [h, List.length_cons] at hl; exact Nat.le_of_succ_le hl) id id

theorem answerReadStandardize_evolves (s : State) : Evolves s (answerReadStandardize s).state := by
  rw [answerReadStandardize, answered_state]
  exact .modSdu_aside rfl rfl

theorem answerReadAlarms_evolves (s : State) : Evolves s (answerReadAlarms s).state := by
  have seen : Evolves s (s.modPlx fun p => { p with alarmNew := false }) := .modPlx id id
  unfold answerReadAlarms
  dsimp only
  split
  · exact seen
  · exact seen

theorem answerSetLines_evolves (body : List Byte) (s : State) : Evolves s (answerSetLines body s).state := by
  unfold answerSetLines
  split
  · exact .refl s
  · rw [plain_state]
    exact setLines_evolves _ s

theorem answerDriveOutputs_evolves (body : List Byte) (s : State) :
    Evolves s (answerDriveOutputs body s).state := by
  unfold answerDriveOutputs
  split
  · exact .refl s
  · rw [plain_state]
    exact .modPlx id id

/-- What any owner's answer leaves. -/
theorem answerTo_acts (kind : ReqKind) (body : List Byte) (s : State) :
    Acts s (answerTo kind body s).state := by
  cases kind <;> simp only [answerTo]
  case loadGrade => exact answerLoadGrade_acts body s
  case clearBreakCause => exact answerClearBreakCause_acts s
  all_goals refine Evolves.acts ?_
  case identify => exact .refl s
  case status => exact answerStatus_evolves s
  case service => exact answerService_evolves body s
  case resetPart => exact answerResetPart_evolves s
  case home => exact answerHome_evolves s
  case scan => exact answerScan_evolves body s
  case park => exact answerPark_evolves s
  case stop => exact answerStop_evolves s
  case point => exact answerPoint_evolves body s
  case clearFault => exact answerClearFault_evolves s
  case setDrive => exact answerSetDrive_evolves body s
  case setGeometry => exact answerSetGeometry_evolves body s
  case selectGrade => exact answerSelectGrade_evolves body s
  case readGrade => rw [(answerReads_state body s).1]; exact .refl s
  case fetchSummary => exact answerFetchSummary_evolves s
  case readProfile => rw [(answerReads_state body s).2.1]; exact .refl s
  case readTrend => rw [(answerReads_state body s).2.2]; exact .refl s
  case clearProfiles => exact (clearProfiles_evolves s).tested
  case setStandardize => exact answerSetStandardize_evolves body s
  case standardize => exact answerStandardize_evolves s
  case readStandardize => exact answerReadStandardize_evolves s
  case setBreak => exact answerSetBreak_evolves body s
  case readBreak => exact .refl s
  case readAlarms => exact answerReadAlarms_evolves s
  case ackAlarm => exact answerAckAlarm_evolves body s
  case setLines => exact answerSetLines_evolves body s
  case readLines => exact answerReadLines_evolves s
  case driveOutputs => exact answerDriveOutputs_evolves body s

end Sys2Proof.Machine
end

section
/-! PROOFS. What the link, every command and every step keep, and the statements that follow. -/

namespace Sys2Proof.Machine
variable {s : State}

/-! ## The link -/

theorem frameTaken_evolves (s : State) : Evolves s (frameTaken s) :=
  (Evolves.modSlp id).trans (endAlarm_evolves _ _)

/-- What the treatment of a frame loses is what the owner's answer loses. -/
theorem Acts.frameTaken {t : State} (h : Acts (frameTaken s) t) : Acts s t where
  toKeeps := (frameTaken_evolves s).toKeeps.trans h.toKeeps
  retains sound :=
    have ⟨refs, cause, slots⟩ := h.retains ((frameTaken_evolves s).records sound)
    ⟨refs, cause, slots⟩

theorem Acts.trans_evolves {t u : State} (h : Acts s t) (e : Evolves t u) : Acts s u where
  toKeeps := h.toKeeps.trans e.toKeeps
  retains sound :=
    have ⟨⟨r, q, f⟩, cause, slots⟩ := h.retains sound
    have ⟨r', q', f'⟩ := e.refs (h.records sound)
    ⟨⟨r' ∘ r, q' ∘ q, f' ∘ f⟩, fun c hs hc => e.cause c (cause c hs hc),
      fun slot hu => by rw [← slots slot hu, gradeIn, gradeIn, e.slots]⟩

theorem Evolves.acts_trans {t u : State} (h : Evolves s t) (e : Evolves t u) : Acts s u := (h.trans e).acts

theorem holdReply_acts {kind : Nat} {tag : Byte} {a : Answer} (h : Acts s a.state) :
    Acts s (holdReply kind tag a) := h.trans_evolves (.modSlp id)

theorem dispatch_acts (kind : Nat) (body : List Byte) (s : State) : Acts s (dispatch kind body s).state := by
  unfold dispatch
  split
  · exact (Evolves.refl s).acts
  · split
    · exact answerTo_acts _ _ s
    · exact (Evolves.refl s).acts

theorem takeBroadcast_acts (kind : Nat) (body : List Byte) (s : State) :
    Acts s (takeBroadcast kind body s) := by
  unfold takeBroadcast
  split
  · exact (Evolves.refl s).acts
  · split
    · exact answerTo_acts _ _ s
    · exact (Evolves.refl s).acts

theorem acceptFrame_acts (kind : Nat) (f : Frame) (s : State) : Acts s (acceptFrame kind f s) := by
  unfold acceptFrame
  split
  · exact (Evolves.refl s).acts
  (repeat' split)
  · exact (Evolves.refl s).acts
  · exact (takeBroadcast_acts _ _ _).frameTaken
  · exact (holdReply_acts (dispatch_acts _ _ _)).frameTaken
  · exact (Evolves.refl s).acts

/-- What acts on a state with another receiver acts on the state. -/
theorem Acts.setReceiver {t : State} {r : Receiver} (h : Acts (setReceiver r s) t) : Acts s t where
  toKeeps := ⟨h.queues, h.traverse, h.alarms, h.records, h.breaks⟩
  retains sound :=
    have ⟨refs, cause, slots⟩ := h.retains sound
    ⟨refs, cause, slots⟩

theorem setReceiver_acts (r : Receiver) (s : State) : Acts s (setReceiver r s) :=
  (Evolves.modSlp id).acts

theorem characterReceived_acts (byte : Byte) (framingError : Bool) (gapUs : Nat) (s : State) :
    Acts s (characterReceived byte framingError gapUs s) := by
  unfold characterReceived
  split
  · exact setReceiver_acts _ s
  (repeat' split)
  · exact setReceiver_acts _ s
  · exact setReceiver_acts _ s
  unfold appendCharacter
  split
  · exact setReceiver_acts _ s
  · exact setReceiver_acts _ s
  · split
    · exact (acceptFrame_acts _ _ _).setReceiver
    · exact setReceiver_acts _ s

/-- R29: a traverse right after a reset is sound. -/
theorem fresh_traverseSound {drive : DriveRecord} {home back front : Bool} {geometry : Option Geometry}
    {confirm : Bool} (trc : s.trc = .fresh drive home back front) (gtu : s.gtu = .fresh geometry confirm) :
    TraverseSound s := by
  unfold TraverseSound
  rw [trc, gtu]
  simp [Traverse.fresh, GateUnit.fresh, referenced]

/-- R188: a part reset keeps the references, the cause record and the grade slots. -/
theorem partReset_acts (straps : Straps) (s : State) : Acts s (partReset straps s) where
  queues _ := by simp [QueuesBounded, partReset, GateUnit.fresh, ProfileBuilder.fresh]
  traverse _ := fresh_traverseSound rfl rfl
  alarms _ := by simp [AlarmsSound, partReset, resetLines]
  records := fun ⟨drive, geometry, len, ranges, active, _, std, delay, silence, _⟩ =>
    ⟨drive, geometry, len, ranges, active, by simp [partReset, resetGrades], std, delay, silence, rfl⟩
  breaks _ := by simp [BreakKeepsProfile, partReset, ProfileBuilder.fresh]
  retains _ := ⟨⟨id, id, id⟩, fun _ _ => id, fun _ _ => rfl⟩

/-- R29, R48, R89, R116, R137, R157, R174, R189: right after a power-on reset every invariant holds. -/
theorem powerOn_sound (straps : Straps) (s : State) :
    QueuesBounded (powerOn straps s) ∧ TraverseSound (powerOn straps s) ∧ AlarmsSound (powerOn straps s)
      ∧ RecordsSound (powerOn straps s) ∧ BreakKeepsProfile (powerOn straps s) := by
  refine ⟨?_, fresh_traverseSound rfl rfl, ?_, ?_, ?_⟩
  · simp [QueuesBounded, powerOn, GateUnit.fresh, State.reset, ProfileBuilder.fresh]
  · simp [AlarmsSound, powerOn, LineUnit.powerOn]
  · have formed : interlockFormed ((rawLevels s).map (InputLine.fresh .powerOn)) = true := by
      simp [interlockFormed, InputLine.fresh, InputSetting.powerOn]
    refine ⟨(by decide : DriveRecord.powerOn.inRange = true), by simp [powerOn, GateUnit.fresh],
      by simp [powerOn, State.reset, Config.gradeSlots], by simp [powerOn, State.reset],
      by simp [powerOn, State.reset], by simp [powerOn, State.reset],
      (by decide : StdSettings.powerOn.inRange = true), ?_, ?_, formed.symm⟩
    · simp [powerOn, State.reset, BreakMonitor.powerOn]
    · simp [powerOn, LinkPort.powerOn]
  · simp [BreakKeepsProfile, powerOn, State.reset, ProfileBuilder.fresh]

theorem powerOn_keeps (straps : Straps) (s : State) : Keeps s (powerOn straps s) :=
  have ⟨queues, traverse, alarms, records, breaks⟩ := powerOn_sound straps s
  ⟨fun _ => queues, fun _ => traverse, fun _ => alarms, fun _ => records, fun _ => breaks⟩

theorem replyEnd_acts (straps : Straps) (s : State) : Acts s (replyEnd straps s) := by
  have listening : Evolves s (listenAgain s) := .modSlp id
  unfold replyEnd
  split
  · split
    · have ⟨keeps, retains⟩ := partReset_acts straps (listenAgain s)
      refine ⟨listening.toKeeps.trans keeps, fun sound => ?_⟩
      obtain ⟨refs, cause, slots⟩ := retains (listening.records sound)
      exact ⟨refs, cause, slots⟩
    · exact listening.acts
  · exact (Evolves.refl s).acts

theorem silenceTimeout_evolves (s : State) : Evolves s (silenceTimeout s) := by
  unfold silenceTimeout
  split
  · exact .refl s
  · exact (((Evolves.modSlp id).trans (raiseAlarm_evolves _ _ _)).trans (parkOrder_evolves _)).tested

/-! ## Commands and steps -/

/-- What each command but POWER_ON_RESET does. -/
theorem exec_acts {c : Instr} {t : State} (hc : ∀ p, c ≠ .powerOnReset p) (h : exec c s = .next t) :
    Acts s t := by
  cases c
  case powerOnReset p => exact absurd rfl (hc p)
  all_goals obtain rfl := Host.Outcome.next.inj h
  case lineBreak => exact setReceiver_acts _ s
  case replyEnd straps => exact replyEnd_acts straps s
  case characterReceived byte framingError gapUs => exact characterReceived_acts byte framingError gapUs s
  case replyStart => exact (Evolves.ite (fun _ => .modSlp id) fun _ => .refl s).acts
  case silenceTimeout => exact (silenceTimeout_evolves s).acts
  case pwmPeriodStart => exact (pwmPeriodStart_evolves s).acts
  case speedLoopRun => exact (speedLoopRun_evolves s).acts
  case stallTimeout => exact (Evolves.ite (fun _ => faultNow_evolves _ s) fun _ => .refl s).acts
  case homingTimeout => exact (Evolves.ite (fun _ => faultNow_evolves _ s) fun _ => .refl s).acts
  case currentTrip => exact (currentTrip_evolves s).acts
  case offTimeEnd => exact (modTrc_aside_evolves rfl rfl rfl rfl rfl (by simp [offTimeEnd])).acts
  case tripWindowEnd => exact (modTrc_aside_evolves rfl rfl rfl rfl rfl id).acts
  case encoderEdge towardsFront => exact (encoderEdge_evolves towardsFront s).acts
  case frameSwitchRawChange switch active => exact (withSwitch_evolves switch _ s).acts
  case frameSwitchSettled switch => exact (switchSettled_evolves switch s).acts
  case headPulse input => exact (Evolves.modGtu rfl id (.inl rfl)).acts
  case pointTimerExpiry => exact (pointTimerExpiry_evolves s).acts
  case subGateExpiry => exact (subGateExpiry_evolves s).acts
  case sampleJobComplete => exact (sampleJobComplete_evolves s).acts
  case passChunkComplete => exact (passChunkComplete_evolves s).acts
  case recoveryDelayExpiry =>
    unfold recoveryDelayExpiry
    split
    · exact (expireDelay_evolves ‹_›).tested.acts
    · exact (Evolves.refl s).acts
  case evaluationComplete => exact (evaluationComplete_evolves s).acts
  case shutterConfirmRawChange => exact (Evolves.modSdu_aside rfl rfl).acts
  case shutterConfirmSettled => exact (confirmSettled_evolves s).acts
  case shutterWindowExpiry => exact (windowExpiry_evolves s).acts
  case inputRawChange line high => exact (inputRawChange_evolves line high s).acts
  case inputDebounceExpiry line => exact (takeLevel_evolves line s).acts
  all_goals exact acceptFrame_acts _ _ s

/-- R3 to R7, R39, R135, R147, R163, R184: a microsecond moves timers only. -/
theorem oneMicrosecond_keeps (s : State) : Keeps s (oneMicrosecond s) where
  queues := id
  traverse := fun ⟨homed, zero, off, rest⟩ => ⟨homed, zero, fun h => off (by
    change (countDown s.trc.offTime).isSome = true at h
    simpa [countDown] using h), rest⟩
  alarms := id
  records := fun ⟨drive, geometry, len, ranges, active, staged, std, delay, silence, formed⟩ => by
    refine ⟨drive, geometry, len, ranges, active, staged, std, delay, silence, ?_⟩
    simpa [oneMicrosecond, interlockFormed, List.all_map, Function.comp_def, lineActive, lineState,
      InputLine.tick] using formed
  breaks := fun ⟨normal, sets⟩ => ⟨fun hs => normal fun h => hs (by
    simp [oneMicrosecond, BreakMonitor.tick, h]), sets⟩

theorem exec_keeps {c : Instr} {t : State} (h : exec c s = .next t) : Keeps s t := by
  by_cases hc : ∃ p, c = .powerOnReset p
  · obtain ⟨p, rfl⟩ := hc
    obtain rfl := Host.Outcome.next.inj h
    exact powerOn_keeps p s
  · exact (exec_acts (fun p hp => hc ⟨p, hp⟩) h).toKeeps

/-- Every step keeps each of the five invariants. -/
theorem step_keeps {t : State} (h : step s = .next t) : Keeps s t := by
  unfold step at h
  split at h
  · have front := exec_keeps h
    exact ⟨front.queues, front.traverse, front.alarms, front.records, front.breaks⟩
  · obtain rfl := Host.Outcome.next.inj h
    unfold idle
    split
    · exact ⟨id, id, id, id, id⟩
    · exact oneMicrosecond_keeps s

/-! ## The statements -/

/-- Settles O53: every operation keeps the queues within their lengths. -/
theorem queuesStayBounded : Obligations.QueuesStayBounded := fun _ _ h hs => (step_keeps hs).queues h

/-- Settles O54: every operation keeps the traverse sound. -/
theorem traverseStaysSound : Obligations.TraverseStaysSound := fun _ _ h hs => (step_keeps hs).traverse h

/-- Settles O56: raises, endings and acknowledgements keep the alarm list sound. -/
theorem alarmsStaySound : Obligations.AlarmsStaySound := fun _ _ h hs => (step_keeps hs).alarms h

/-- Settles O57: every operation keeps the records in force within their ranges. -/
theorem recordsStaySound : Obligations.RecordsStaySound := fun _ _ h hs => (step_keeps hs).records h

/-- Settles O58: every operation keeps NORMAL scans out of a break and the working set at the published one. -/
theorem breakKeepsProfiles : Obligations.BreakKeepsProfiles := fun _ _ h hs => (step_keeps hs).breaks h

/-- R178, R182: no command but REPLY_END and a power-on reset takes a reply away. -/
theorem exec_keeps_reply {c : Instr} {t : State} {reply : List Byte} (hp : s.slp.port = .replying reply)
    (hc : ∀ p, c ≠ .powerOnReset p) (hr : ∀ p, c ≠ .replyEnd p) (h : exec c s = .next t) :
    t.slp.port = .replying reply := by
  have discarded (kind : Nat) (f : Frame) (u : State) (hu : u.slp.port = .replying reply) :
      (acceptFrame kind f u).slp.port = .replying reply := by
    simp [acceptFrame, hu]
  cases c
  case powerOnReset p => exact absurd rfl (hc p)
  case replyEnd p => exact absurd rfl (hr p)
  all_goals obtain rfl := Host.Outcome.next.inj h
  case replyStart =>
    unfold replyStart
    split <;> simpa using hp
  case silenceTimeout =>
    unfold silenceTimeout
    split <;> simpa using hp
  case characterReceived =>
    unfold characterReceived huntCharacter appendCharacter
    (repeat' split)
    case h_3.isTrue => exact discarded _ _ _ hp
    all_goals exact hp
  case recoveryDelayExpiry => simpa using hp
  case pwmPeriodStart | offTimeEnd | tripWindowEnd | frameSwitchRawChange | shutterConfirmRawChange
    | lineBreak => exact hp
  case speedLoopRun | stallTimeout | homingTimeout | currentTrip | encoderEdge | frameSwitchSettled
    | headPulse | pointTimerExpiry | subGateExpiry | sampleJobComplete | passChunkComplete
    | evaluationComplete | shutterConfirmSettled | shutterWindowExpiry | inputRawChange
    | inputDebounceExpiry => simpa using hp
  all_goals exact discarded _ _ s hp

/-- Settles O59: from what each command retains, and from the port for the reply. -/
theorem onlyPowerOnLoses : Obligations.OnlyPowerOnLoses := by
  intro c s t sound hc h
  obtain ⟨⟨r0, q0, f0⟩, cause, slots⟩ := (exec_acts hc h).retains sound
  exact ⟨r0, q0, f0, cause, slots, fun _ hp hr => exec_keeps_reply hp hc hr h⟩

end Sys2Proof.Machine
end

section
/-! PROOFS. The shutter command at its condition (R134): after the tests of an event it stands there, and every operation outside them leaves command and condition as they were. -/

namespace Sys2Proof.Machine
variable {s t : State}

/-! ## Command and condition -/

/-- Neither the shutter command nor the condition it follows is changed. -/
structure ShutterKept (s t : State) : Prop where
  command : t.sdu.shutterOpen = s.sdu.shutterOpen
  condition : shutterWanted t = shutterWanted s

theorem ShutterKept.refl (s : State) : ShutterKept s s := ⟨rfl, rfl⟩

theorem ShutterKept.trans {u : State} (a : ShutterKept s t) (b : ShutterKept t u) : ShutterKept s u :=
  ⟨b.command.trans a.command, b.condition.trans a.condition⟩

theorem ShutterKept.follows (k : ShutterKept s t) (h : ShutterFollows s) : ShutterFollows t :=
  k.command.trans (h.trans k.condition.symm)

theorem ShutterKept.ite {a b : State} {c : Prop} [Decidable c] (ha : c → ShutterKept s a)
    (hb : ¬ c → ShutterKept s b) : ShutterKept s (if c then a else b) := by
  split
  · exact ha ‹_›
  · exact hb ‹_›

theorem follows_ite {a b : State} {c : Prop} [Decidable c] (ha : c → ShutterFollows a)
    (hb : ¬ c → ShutterFollows b) : ShutterFollows (if c then a else b) := by
  split
  · exact ha ‹_›
  · exact hb ‹_›

/-- The condition is read from the interlock, the traverse state and the dwell. -/
theorem ShutterKept.of_blocks (command : t.sdu.shutterOpen = s.sdu.shutterOpen)
    (dwell : t.sdu.dwell = s.sdu.dwell) (state : t.trc.state = s.trc.state)
    (interlock : t.plx.interlock = s.plx.interlock) : ShutterKept s t :=
  ⟨command, by unfold shutterWanted dwellPhaseAir; rw [dwell, state, interlock]⟩

/-- Without a change of the three blocks nothing of it is changed. -/
theorem ShutterKept.of_frame (sdu : t.sdu = s.sdu) (trc : t.trc = s.trc) (plx : t.plx = s.plx) :
    ShutterKept s t := .of_blocks (by rw [sdu]) (by rw [sdu]) (by rw [trc]) (by rw [plx])

/-- A change of the traverse state within what the condition tells apart. -/
theorem ShutterKept.modTrc {f : Traverse → Traverse}
    (scanning : isScanning (f s.trc).state = isScanning s.trc.state)
    (point : isPoint (f s.trc).state = isPoint s.trc.state)
    (dwell : isDwell (f s.trc).state = isDwell s.trc.state) : ShutterKept s (s.modTrc f) :=
  ⟨rfl, by simp only [shutterWanted, State.modTrc_trc, scanning, point, dwell]; rfl⟩

theorem moveTo_shutterKept {new : TraverseState} (scanning : isScanning new = isScanning s.trc.state)
    (point : isPoint new = isPoint s.trc.state) (dwell : isDwell new = isDwell s.trc.state) :
    ShutterKept s (moveTo new s) := by
  refine ⟨by simp, ?_⟩
  simp only [shutterWanted, moveTo_trc, enterState, scanning, point, dwell, dwellPhaseAir, moveTo_frame]

theorem raiseAlarm_shutterKept (kind : AlarmKind) (detail : Int) (s : State) :
    ShutterKept s (raiseAlarm kind detail s) := ⟨rfl, rfl⟩

/-- R126: the AIR phase has begun when the step leaves DARK, so that OPENING to AIR changes nothing of the condition. -/
theorem startAir_shutterKept (s : State) : ShutterKept s (startAir s) := by
  unfold startAir
  split
  · rename_i d hd
    refine .ite (fun h => ⟨rfl, ?_⟩) fun _ => .refl s
    have opening : d.step = .opening := eq_of_beq h
    simp only [shutterWanted, dwellPhaseAir, hd, opening, capture_frame, State.modSdu_sdu,
      State.modSdu_trc, State.modSdu_plx, State.modGtu_trc, State.modGtu_plx, State.modGtu_sdu]
    rfl
  · exact .refl s

theorem shutterAgrees_shutterKept (s : State) : ShutterKept s (shutterAgrees s) := by
  have ended : ShutterKept s (endAlarm .shutter (s.modSdu fun u => { u with supervision := .agreed })) :=
    ⟨rfl, rfl⟩
  exact .ite (fun _ => ended.trans (startAir_shutterKept _)) fun _ => ended

/-- R134: after the follow the command stands at its condition. -/
theorem shutterFollow_follows (s : State) : ShutterFollows (shutterFollow s) := by
  have commanded : ShutterFollows (s.modSdu fun u =>
      { u with shutterOpen := shutterWanted s, supervision := .settling, window := 0 }) := rfl
  refine follows_ite (fun h => (eq_of_beq h).symm) fun _ => ?_
  exact follows_ite (fun _ => (shutterAgrees_shutterKept _).follows commanded) fun _ => commanded

theorem motionTests_follows (s : State) : ShutterFollows (motionTests s) := shutterFollow_follows _

theorem arbitrate_shutterKept (s : State) : ShutterKept s (arbitrate s) := by
  unfold arbitrate
  split
  · exact .refl s
  · unfold arbiterChoice
    (repeat' split) <;> exact ⟨rfl, rfl⟩

theorem engineTests_shutterKept (s : State) : ShutterKept s (engineTests s) :=
  (arbitrate_shutterKept s).trans ⟨rfl, rfl⟩

theorem engineTests_follows (h : ShutterFollows s) : ShutterFollows (engineTests s) :=
  (engineTests_shutterKept s).follows h

/-! ## Events -/

theorem compare_follows (h : ShutterFollows s) : ShutterFollows (compare s) := by
  unfold compare
  split
  · exact follows_ite (fun _ => engineTests_follows (motionTests_follows _)) fun _ => h
  · exact h

theorem reversal_follows (h : ShutterFollows s) : ShutterFollows (reversal s) := by
  have reversed (direction : Direction) (target : Nat) (park : Bool) (scanning : isScanning s.trc.state = true) :
      ShutterFollows (reverseTo direction target park s) := by
    refine ShutterKept.follows ((moveTo_shutterKept ?_ ?_ ?_).trans ⟨rfl, rfl⟩) h <;>
      cases hs : s.trc.state <;> simp_all [isScanning, isPoint, isDwell]
  unfold reversal
  split
  · exact follows_ite (fun _ => reversed _ _ _ (by simp [*, isScanning])) fun _ => h
  · exact follows_ite (fun _ => follows_ite (fun _ => motionTests_follows _)
      fun _ => reversed _ _ _ (by simp [*, isScanning])) fun _ => h
  · exact h

theorem encoderEdge_follows (towardsFront : Bool) (h : ShutterFollows s) :
    ShutterFollows (encoderEdge towardsFront s) :=
  reversal_follows (compare_follows ((ShutterKept.modTrc rfl rfl rfl).follows h))

theorem overrun_shutterKept (displaced : SampleRecord) (s : State) :
    ShutterKept s (overrun displaced s) := by
  have marked (scan slot : Nat) (f : SlotEntry → SlotEntry) : ShutterKept s (modEntry scan slot f s) :=
    .of_frame (by simp) (by simp) (by simp)
  unfold overrun
  split
  · exact raiseAlarm_shutterKept _ _ s
  all_goals exact (marked _ _ _).trans ⟨rfl, rfl⟩

theorem place_shutterKept (r : SampleRecord) (s : State) : ShutterKept s (place r s) := by
  unfold place
  split
  · exact ⟨rfl, rfl⟩
  · split
    · exact ⟨rfl, rfl⟩
    · exact ShutterKept.trans (t := s.modGtu fun g => { g with held := some r }) ⟨rfl, rfl⟩
        (overrun_shutterKept _ _)

theorem passTests_shutterKept (s : State) : ShutterKept s (passTests s) :=
  .of_frame (by simp) (by simp) (by simp)

theorem pointTimerExpiry_follows (h : ShutterFollows s) : ShutterFollows (pointTimerExpiry s) := by
  unfold pointTimerExpiry
  split
  · refine engineTests_follows (((ShutterKept.trans ?_ (place_shutterKept _ _)).trans
      (passTests_shutterKept _)).follows h)
    exact ⟨rfl, rfl⟩
  · exact h

theorem subGateExpiry_follows (h : ShutterFollows s) : ShutterFollows (subGateExpiry s) := by
  unfold subGateExpiry
  split
  · exact engineTests_follows (shutterFollow_follows _)
  · exact h

theorem sampleJobComplete_follows (h : ShutterFollows s) : ShutterFollows (sampleJobComplete s) := by
  unfold sampleJobComplete
  split
  · exact engineTests_follows (motionTests_follows _)
  · exact h

theorem passChunkComplete_follows (h : ShutterFollows s) : ShutterFollows (passChunkComplete s) := by
  unfold passChunkComplete
  split
  · exact engineTests_follows (motionTests_follows _)
  · exact h

theorem evaluationComplete_follows (h : ShutterFollows s) : ShutterFollows (evaluationComplete s) := by
  have freed : ShutterFollows (s.modCve fun c => { c with job := none }) := h
  unfold evaluationComplete evaluationResult
  split
  · refine engineTests_follows ?_
    split
    · exact follows_ite (fun _ => freed) fun _ => motionTests_follows _
    · exact freed
  · exact h

theorem supervise_follows (h : ShutterFollows s) : ShutterFollows (supervise s) := by
  refine follows_ite (fun _ => ?_) fun _ => ?_ <;> split
  · exact (shutterAgrees_shutterKept s).follows h
  · exact (shutterAgrees_shutterKept s).follows h
  · exact h
  · exact motionTests_follows _
  · exact h
  · exact h

/-- R125: the dark shutter mark is no part of the dwell phase. -/
theorem markConfirm_shutterKept (shown : Bool) (s : State) : ShutterKept s (markConfirm shown s) := by
  refine .ite (fun _ => ⟨rfl, ?_⟩) fun _ => ⟨rfl, rfl⟩
  cases hd : s.sdu.dwell with
  | none => simp [shutterWanted, dwellPhaseAir, hd]
  | some d => by_cases hs : d.step = .dark <;> simp [shutterWanted, dwellPhaseAir, hd, hs]

theorem confirmSettled_follows (h : ShutterFollows s) : ShutterFollows (confirmSettled s) := by
  unfold confirmSettled
  split
  · exact h
  · exact supervise_follows (ShutterKept.follows
      (ShutterKept.trans ⟨rfl, rfl⟩ (markConfirm_shutterKept _ _)) h)

theorem windowExpiry_follows (h : ShutterFollows s) : ShutterFollows (windowExpiry s) := by
  unfold windowExpiry
  split
  · exact follows_ite (fun _ => (shutterAgrees_shutterKept s).follows h) fun _ => motionTests_follows _
  · exact h
  · exact h

/-! ## Plant lines -/

/-- R168: where the interlock changes the tests follow. -/
theorem formInterlock_follows (h : ShutterFollows s) : ShutterFollows (formInterlock s) := by
  have same (hi : interlockFormed s.plx.inputs = s.plx.interlock) :
      ShutterFollows (s.modPlx fun p => { p with interlock := interlockFormed s.plx.inputs }) := by
    rw [hi]
    exact h
  unfold formInterlock
  dsimp only
  split
  · exact motionTests_follows _
  · exact motionTests_follows _
  · exact same (by simp [*])
  · exact same (by simp [*])

theorem formLevelCondition_follows (h : ShutterFollows s) : ShutterFollows (formLevelCondition s) := by
  unfold formLevelCondition
  dsimp only
  split
  · exact motionTests_follows _
  · exact motionTests_follows _
  · exact h
  · exact h

theorem establishConsequences_follows (setting : InputSetting) (h : ShutterFollows s) :
    ShutterFollows (establishConsequences setting s) := by
  unfold establishConsequences
  split
  · exact formInterlock_follows h
  · exact follows_ite (fun _ => formLevelCondition_follows h) fun _ => h
  all_goals exact h

theorem edgeConsequences_follows (line : Nat) (setting : InputSetting) (leading : Bool)
    (h : ShutterFollows s) : ShutterFollows (edgeConsequences line setting leading s) := by
  unfold edgeConsequences
  split
  · exact formInterlock_follows h
  · exact follows_ite (fun _ => formLevelCondition_follows h) fun _ =>
      follows_ite (fun _ => motionTests_follows _) fun _ => h
  · exact follows_ite (fun _ => motionTests_follows _) fun _ => h
  all_goals exact h

theorem takeLevel_follows (line : Nat) (h : ShutterFollows s) : ShutterFollows (takeLevel line s) := by
  have placed (l : InputLine) : ShutterFollows (setLine line l s) := h
  unfold takeLevel
  dsimp only
  split
  · exact h
  · split
    · exact establishConsequences_follows _ (placed _)
    · exact follows_ite (fun _ => h) fun _ => edgeConsequences_follows _ _ _ (placed _)

theorem inputRawChange_follows (line : Nat) (high : Bool) (h : ShutterFollows s) :
    ShutterFollows (inputRawChange line high s) := by
  unfold inputRawChange
  split
  · exact h
  · exact follows_ite (fun _ => h) fun _ => h

theorem takeDue_follows (lines : List Nat) (h : ShutterFollows s) :
    ShutterFollows (lines.foldl takeIfDue s) := by
  induction lines generalizing s with
  | nil => exact h
  | cons i l ih =>
    refine ih ?_
    unfold takeIfDue
    split
    · exact follows_ite (fun _ => takeLevel_follows _ h) fun _ => h
    · exact h

theorem setLines_follows (r : LineRecord) (h : ShutterFollows s) : ShutterFollows (setLines r s) := by
  have replaced : ShutterFollows (s.modPlx (replaceSettings r)) := h
  unfold setLines
  exact takeDue_follows _ (formLevelCondition_follows (formInterlock_follows replaced))

/-! ## The traverse controller -/

theorem arrivalTest_follows (h : ShutterFollows s) : ShutterFollows (arrivalTest s) := by
  unfold arrivalTest
  split
  · refine follows_ite (fun _ => ?_) fun _ => h
    unfold arrival
    split
    case h_5 => exact h
    all_goals exact motionTests_follows _
  · exact h

theorem haltTest_follows (h : ShutterFollows s) : ShutterFollows (haltTest s) := by
  unfold haltTest
  split
  · exact follows_ite (fun _ => motionTests_follows _) fun _ => h
  · exact h

/-- R14: the condition tells the steps of HOMING not apart. -/
theorem homingStep_shutterKept {f : Traverse → Traverse} {step next : HomingStep}
    (h : s.trc.state = .homing step) (hf : (f s.trc).state = .homing next) : ShutterKept s (s.modTrc f) :=
  .modTrc (by rw [h, hf]; rfl) (by rw [h, hf]; rfl) (by rw [h, hf]; rfl)

theorem startToPark_shutterKept (s : State) : ShutterKept s (s.modTrc startToPark) := by
  rcases startToPark_cases s.trc with h | ⟨hs, h⟩
  · exact .modTrc (by rw [h]) (by rw [h]) (by rw [h])
  · exact homingStep_shutterKept hs (by rw [h])

theorem speedLoopRun_follows (h : ShutterFollows s) : ShutterFollows (speedLoopRun s) := by
  have formed : ShutterKept s (s.modTrc formSpeed) := ⟨rfl, rfl⟩
  refine follows_ite (fun _ => ?_) fun _ => formed.follows h
  exact haltTest_follows (arrivalTest_follows
    (((formed.trans (startToPark_shutterKept _)).trans (.modTrc rfl rfl rfl)).follows h))

theorem switchSettled_follows (switch : FrameSwitch) (h : ShutterFollows s) :
    ShutterFollows (switchSettled switch s) := by
  have settled (d : Debounced) : ShutterFollows (s.modTrc fun t => t.withSwitch switch d) := by
    cases switch <;> exact h
  have limit {u : State} (hu : ShutterFollows u) : ShutterFollows (limitEdge u) := by
    unfold limitEdge
    split
    case h_2 => exact (ShutterKept.trans ⟨rfl, rfl⟩ (raiseAlarm_shutterKept _ _ _)).follows hu
    all_goals exact motionTests_follows _
  unfold switchSettled
  dsimp only
  split
  · exact h
  refine follows_ite (fun _ => settled _) fun _ => ?_
  unfold switchEdge
  split
  · unfold homeEdge
    split
    · exact (homingStep_shutterKept ‹_› rfl).follows (settled _)
    · exact (homingStep_shutterKept ‹_› rfl).follows (settled _)
    · exact settled _
  all_goals exact follows_ite (fun _ => limit (settled _)) fun _ => settled _

theorem currentTrip_follows (h : ShutterFollows s) : ShutterFollows (currentTrip s) :=
  follows_ite (fun _ => h) fun _ => follows_ite (fun _ => motionTests_follows _) fun _ => h

/-! ## Requests -/

theorem wantIfNoAir_shutterKept (s : State) : ShutterKept s (wantIfNoAir s) :=
  .ite (fun _ => ⟨rfl, rfl⟩) fun _ => .refl s

theorem scanByState_follows (h : ShutterFollows s) : ShutterFollows (scanByState s).state := by
  have ready : ShutterKept s (wantIfNoAir (clearHold s)) :=
    ShutterKept.trans (t := clearHold s) ⟨rfl, rfl⟩ (wantIfNoAir_shutterKept _)
  have state : (wantIfNoAir (clearHold s)).trc.state = s.trc.state := by
    rw [(wantIfNoAir_frame _).1]
    rfl
  have moved {new : TraverseState} (scanning : isScanning new = isScanning s.trc.state)
      (point : isPoint new = isPoint s.trc.state) (dwell : isDwell new = isDwell s.trc.state) :
      ShutterFollows (moveTo new (wantIfNoAir (clearHold s))) :=
    (ready.trans (moveTo_shutterKept (by rwa [state]) (by rwa [state]) (by rwa [state]))).follows h
  unfold scanByState
  dsimp only
  split
  case h_1 | h_2 | h_3 => exact motionTests_follows _
  case h_4 | h_5 | h_6 =>
    exact moved (by simp [*, isScanning]) (by simp [*, isPoint]) (by simp [*, isDwell])
  all_goals exact h

theorem answerScan_follows (body : List Byte) (h : ShutterFollows s) :
    ShutterFollows (answerScan body s).state := by
  have inBreak (now : Bool) : ShutterFollows (scanInBreak now s).state := by
    unfold scanInBreak
    split
    · exact scanByState_follows h
    · exact motionTests_follows _
    all_goals exact h
  unfold answerScan
  (repeat' split)
  · exact h
  · exact h
  · exact h
  · exact h
  · exact inBreak _

theorem parkByState_follows (h : ShutterFollows s) : ShutterFollows (parkByState s).state := by
  have moved {new : TraverseState} (scanning : isScanning new = isScanning s.trc.state)
      (point : isPoint new = isPoint s.trc.state) (dwell : isDwell new = isDwell s.trc.state) :
      ShutterFollows (moveTo new (clearHold s)) :=
    (ShutterKept.trans (t := clearHold s) ⟨rfl, rfl⟩ (moveTo_shutterKept scanning point dwell)).follows h
  unfold parkByState
  dsimp only
  split
  case h_2 | h_3 | h_4 | h_7 => exact motionTests_follows _
  case h_1 | h_5 | h_6 | h_8 =>
    exact moved (by simp [*, isScanning]) (by simp [*, isPoint]) (by simp [*, isDwell])
  all_goals exact h

theorem answerHome_follows (h : ShutterFollows s) : ShutterFollows (answerHome s).state := by
  unfold answerHome
  split
  · exact h
  rename_i allowed
  (repeat' split)
  · exact h
  · exact h
  · have rest : s.trc.state = .stopped ∨ s.trc.state = .parked := by
      simp only [Bool.or_eq_true, Bool.not_eq_true', not_or, Bool.not_eq_false, beq_iff_eq] at allowed
      exact allowed.1
    rw [plain_state, enterHoming_clearHold rest]
    refine ShutterKept.follows (s := s) ⟨rfl, ?_⟩ h
    rcases rest with hr | hr <;> simp [shutterWanted, hr, isScanning, isPoint, isDwell]

theorem answerStop_follows (h : ShutterFollows s) : ShutterFollows (answerStop s).state := by
  unfold answerStop
  split
  case h_7 | h_8 | h_9 => exact h
  all_goals exact motionTests_follows _

/-- R24: STOPPED is no more in the condition than FAULTED. -/
theorem answerClearFault_follows (h : ShutterFollows s) : ShutterFollows (answerClearFault s).state := by
  rw [answerClearFault_eq, plain_state]
  split
  · refine ShutterKept.follows (s := s) ⟨rfl, ?_⟩ h
    cases hs : s.trc.state <;> simp_all [shutterWanted, isFaulted, isScanning, isPoint, isDwell]
  · exact h

theorem answerPark_follows (h : ShutterFollows s) : ShutterFollows (answerPark s).state := by
  unfold answerPark
  (repeat' split)
  · exact h
  · exact h
  · exact h
  · exact parkByState_follows h

theorem answerPoint_follows (body : List Byte) (h : ShutterFollows s) :
    ShutterFollows (answerPoint body s).state := by
  have byState (position periodMs : Nat) : ShutterFollows (pointByState position periodMs s).state := by
    unfold pointByState
    split
    case h_1 | h_2 | h_3 => exact motionTests_follows _
    all_goals exact h
  unfold answerPoint
  dsimp only
  (repeat' split)
  · exact h
  · exact h
  · exact h
  · exact h
  · exact h
  · exact byState _ _

theorem answerSelectGrade_follows (body : List Byte) (h : ShutterFollows s) :
    ShutterFollows (answerSelectGrade body s).state := by
  have unstaged : ShutterFollows (s.modGrs fun g => { g with staged := none }) := h
  unfold answerSelectGrade selectScanning selectNow
  dsimp only
  (repeat' split)
  · exact h
  · exact unstaged
  · exact h
  · exact unstaged
  · exact motionTests_follows _

theorem answerSetGeometry_follows (body : List Byte) (h : ShutterFollows s) :
    ShutterFollows (answerSetGeometry body s).state := by
  unfold answerSetGeometry
  dsimp only
  (repeat' split)
  · exact h
  · exact h
  · exact motionTests_follows _

theorem answerStandardize_follows (h : ShutterFollows s) : ShutterFollows (answerStandardize s).state := by
  unfold answerStandardize
  (repeat' split)
  · exact h
  · exact h
  · exact motionTests_follows _

theorem answerSetLines_follows (body : List Byte) (h : ShutterFollows s) :
    ShutterFollows (answerSetLines body s).state := by
  unfold answerSetLines
  split
  · exact h
  · rw [plain_state]
    exact setLines_follows _ h

/-- The requests that touch neither the traverse nor the dwell nor the interlock. -/
theorem answerTo_shutterKept (kind : ReqKind) (body : List Byte) (s : State)
    (h : kind ∉ [.home, .scan, .park, .stop, .point, .clearFault, .setGeometry, .selectGrade,
      .clearProfiles, .standardize, .setLines]) : ShutterKept s (answerTo kind body s).state := by
  cases kind <;> simp only [answerTo]
  case setDrive =>
    unfold answerSetDrive
    dsimp only
    (repeat' split) <;> exact ⟨rfl, rfl⟩
  case setStandardize =>
    unfold answerSetStandardize
    dsimp only
    (repeat' split) <;> exact ⟨rfl, rfl⟩
  case readStandardize => exact ⟨rfl, rfl⟩
  case readAlarms =>
    unfold answerReadAlarms
    dsimp only
    split <;> exact ⟨rfl, rfl⟩
  case readLines => exact ⟨rfl, rfl⟩
  case ackAlarm =>
    unfold answerAckAlarm
    (repeat' split) <;> exact ⟨rfl, rfl⟩
  case driveOutputs =>
    unfold answerDriveOutputs
    split <;> exact ⟨rfl, rfl⟩
  case identify | status | service | resetPart | loadGrade | readGrade | fetchSummary | readProfile
    | readTrend | setBreak | readBreak | clearBreakCause =>
    exact .of_frame (by simp) (by simp) (by simp)
  all_goals exact absurd h (by decide)

theorem answerTo_follows (kind : ReqKind) (body : List Byte) (h : ShutterFollows s) :
    ShutterFollows (answerTo kind body s).state := by
  cases kind
  case home => exact answerHome_follows h
  case scan => exact answerScan_follows body h
  case park => exact answerPark_follows h
  case stop => exact answerStop_follows h
  case point => exact answerPoint_follows body h
  case clearFault => exact answerClearFault_follows h
  case setGeometry => exact answerSetGeometry_follows body h
  case selectGrade => exact answerSelectGrade_follows body h
  case clearProfiles => exact motionTests_follows _
  case standardize => exact answerStandardize_follows h
  case setLines => exact answerSetLines_follows body h
  all_goals exact (answerTo_shutterKept _ body s (by decide)).follows h

/-! ## The link and the steps -/

theorem acceptFrame_follows (kind : Nat) (f : Frame) (h : ShutterFollows s) :
    ShutterFollows (acceptFrame kind f s) := by
  have taken : ShutterFollows (frameTaken s) := h
  have broadcast : ShutterFollows (takeBroadcast kind f.body (frameTaken s)) := by
    unfold takeBroadcast
    (repeat' split)
    · exact taken
    · exact answerTo_follows _ _ taken
    · exact taken
  have addressed : ShutterFollows (dispatch kind f.body (frameTaken s)).state := by
    unfold dispatch
    (repeat' split)
    · exact taken
    · exact answerTo_follows _ _ taken
    · exact taken
  unfold acceptFrame
  (repeat' split)
  · exact h
  · exact h
  · exact broadcast
  · exact addressed
  · exact h

theorem characterReceived_follows (byte : Byte) (framingError : Bool) (gapUs : Nat)
    (h : ShutterFollows s) : ShutterFollows (characterReceived byte framingError gapUs s) := by
  have appended (buffer : List Byte) : ShutterFollows (appendCharacter buffer s) := by
    have hunting : ShutterFollows (setReceiver .hunting s) := h
    unfold appendCharacter
    (repeat' split)
    · exact h
    · exact h
    · exact acceptFrame_follows _ _ hunting
    · exact h
  unfold characterReceived
  (repeat' split)
  · exact h
  · exact h
  · exact h
  · exact appended _

/-- R29, R137: right after a reset the head is at rest and the shutter closed. -/
theorem reset_follows (shutter : s.sdu.shutterOpen = false) (state : s.trc.state = .stopped) :
    ShutterFollows s := by
  simp [ShutterFollows, shutter, state, isScanning, isPoint, isDwell]

theorem replyEnd_follows (straps : Straps) (h : ShutterFollows s) : ShutterFollows (replyEnd straps s) :=
  follows_ite (fun _ => follows_ite (fun _ => reset_follows rfl rfl) fun _ => h) fun _ => h

theorem exec_follows {c : Instr} (h : ShutterFollows s) (hc : exec c s = .next t) : ShutterFollows t := by
  cases c <;> obtain rfl := Host.Outcome.next.inj hc
  case powerOnReset straps => exact reset_follows rfl rfl
  case lineBreak => exact h
  case replyStart => exact follows_ite (fun _ => h) fun _ => h
  case replyEnd straps => exact replyEnd_follows straps h
  case silenceTimeout =>
    unfold silenceTimeout
    split
    · exact h
    · exact motionTests_follows _
  case pwmPeriodStart => exact h
  case speedLoopRun => exact speedLoopRun_follows h
  case stallTimeout => exact follows_ite (fun _ => motionTests_follows _) fun _ => h
  case homingTimeout => exact follows_ite (fun _ => motionTests_follows _) fun _ => h
  case currentTrip => exact currentTrip_follows h
  case offTimeEnd => exact h
  case tripWindowEnd => exact h
  case encoderEdge towardsFront => exact encoderEdge_follows towardsFront h
  case frameSwitchRawChange switch active => cases switch <;> exact h
  case frameSwitchSettled switch => exact switchSettled_follows switch h
  case headPulse input => exact h
  case pointTimerExpiry => exact pointTimerExpiry_follows h
  case subGateExpiry => exact subGateExpiry_follows h
  case sampleJobComplete => exact sampleJobComplete_follows h
  case passChunkComplete => exact passChunkComplete_follows h
  case recoveryDelayExpiry =>
    unfold recoveryDelayExpiry
    split
    · exact motionTests_follows _
    · exact h
  case evaluationComplete => exact evaluationComplete_follows h
  case shutterConfirmRawChange active => exact h
  case shutterConfirmSettled => exact confirmSettled_follows h
  case shutterWindowExpiry => exact windowExpiry_follows h
  case inputRawChange line high => exact inputRawChange_follows line high h
  case inputDebounceExpiry line => exact takeLevel_follows line h
  case characterReceived byte framingError gapUs => exact characterReceived_follows byte framingError gapUs h
  all_goals exact acceptFrame_follows _ _ h

/-- Settles O55: the tests that end an event put the command at its condition, and what comes outside them touches neither. -/
theorem shutterStaysFollowing : Obligations.ShutterStaysFollowing := by
  intro s t h hs
  unfold step at hs
  split at hs
  · rename_i c rest _
    exact exec_follows (s := { s with pending := rest }) h hs
  · obtain rfl := Host.Outcome.next.inj hs
    unfold idle
    split
    · exact h
    · exact h

/-- Settles O52: the reset state is what a power-on reset makes of it. -/
theorem invariantsAtReset : Obligations.InvariantsAtReset := by
  have reset : State.reset = powerOn { address := 0, baud := 0 } State.reset := rfl
  obtain ⟨queues, traverse, alarms, records, breaks⟩ := powerOn_sound { address := 0, baud := 0 } State.reset
  unfold Obligations.InvariantsAtReset
  rw [reset]
  exact ⟨queues, traverse, reset_follows rfl rfl, alarms, records, breaks⟩

end Sys2Proof.Machine
end

section
/-! PROOFS. The step and the timebase (00), and the two resets. -/

namespace Sys2Proof.Machine

/-! ## Events that are due -/

@[simp] theorem mem_dueIf {test : Bool} {c d : Instr} : c ∈ dueIf test d ↔ test = true ∧ c = d := by
  unfold dueIf
  split <;> simp [*]

/-- A timer that counts up has reached a time. -/
theorem reached_iff (timer : Option Nat) (us : Nat) :
    reached timer us = true ↔ ∃ n, timer = some n ∧ us ≤ n := by
  simp [reached, Option.any_eq_true]

theorem mem_dueContacts (s : State) (c : Instr) :
    c ∈ dueContacts s ↔
      (∃ sw, c = .frameSwitchSettled sw ∧ reached (s.trc.switch sw).timer 2000 = true)
        ∨ c = .shutterConfirmSettled ∧ reached s.sdu.confirm.timer 2000 = true := by
  simp only [dueContacts, List.mem_append, mem_dueIf, Config.switchDebounceUs]
  constructor
  · rintro (((⟨h, rfl⟩ | ⟨h, rfl⟩) | ⟨h, rfl⟩) | ⟨h, rfl⟩)
    · exact .inl ⟨.home, rfl, h⟩
    · exact .inl ⟨.backLimit, rfl, h⟩
    · exact .inl ⟨.frontLimit, rfl, h⟩
    · exact .inr ⟨rfl, h⟩
  · rintro (⟨sw, rfl, h⟩ | ⟨rfl, h⟩)
    · cases sw <;> simp_all [Traverse.switch]
    · simp [h]

theorem mem_dueLines (s : State) (c : Instr) :
    c ∈ dueLines s ↔
      ∃ i : Fin 8, c = .inputDebounceExpiry i ∧ ∃ l, s.plx.inputs[i.val]? = some l ∧ lineDue l = true := by
  simp only [dueLines, List.mem_map, List.mem_filter, List.mem_finRange, true_and, Option.any_eq_true]
  constructor
  · rintro ⟨i, h, rfl⟩
    exact ⟨i, rfl, h⟩
  · rintro ⟨i, rfl, h⟩
    exact ⟨i, h, rfl⟩

/-- R46: the point timer has reached the gate period of the point held. -/
theorem pointDue_iff (s : State) :
    pointDue s = true ↔
      ∃ position period, s.trc.state = .point position period
        ∧ reached s.gtu.pointTimer (period * 1000) = true := by
  unfold pointDue
  split
  · rename_i position period h
    simp [h]
  · rename_i h
    simp only [Bool.false_eq_true, false_iff]
    rintro ⟨position, period, hp, _⟩
    exact h position period hp

theorem replyWaits_iff (p : LinkPort) :
    replyWaits p = true ↔ (∃ reply, p.port = .replying reply) ∧ p.transmitting = false := by
  unfold replyWaits
  split <;> simp [*]

theorem mem_dueDrive (t : Traverse) (c : Instr) :
    c ∈ dueDrive t ↔
      c = .offTimeEnd ∧ t.offTime = some 0 ∨ c = .pwmPeriodStart ∧ 50 ≤ t.pwmPhase
        ∨ c = .tripWindowEnd ∧ 1000000 ≤ t.windowPhase
        ∨ c = .homingTimeout ∧ reached t.homingTimer 60000000 = true ∧ isHoming t.state = true
        ∨ c = .speedLoopRun ∧ 1000 ≤ t.loopPhase
        ∨ c = .stallTimeout ∧ 500 ≤ t.stallMs ∧ loopRuns t.state = true := by
  simp only [dueDrive, List.mem_append, mem_dueIf, or_assoc, Bool.and_eq_true, decide_eq_true_eq,
    beq_iff_eq, and_comm (b := c = _)]
  rfl

theorem mem_dueGates (s : State) (c : Instr) :
    c ∈ dueGates s ↔
      c = .shutterWindowExpiry ∧ s.sdu.supervision = .settling ∧ 500000 ≤ s.sdu.window
        ∨ c = .pointTimerExpiry ∧ pointDue s = true
        ∨ c = .subGateExpiry ∧ reached s.gtu.subGateTimer 1000000 = true ∧ s.sdu.dwell.isSome = true
        ∨ c = .recoveryDelayExpiry ∧ s.bkm.state = .waiting (.running 0) := by
  simp only [dueGates, List.mem_append, mem_dueIf, or_assoc, Bool.and_eq_true, decide_eq_true_eq,
    beq_iff_eq, and_comm (b := c = _)]
  rfl

theorem mem_dueLink (p : LinkPort) (c : Instr) :
    c ∈ dueLink p ↔
      c = .silenceTimeout ∧ p.silence = some 0
        ∨ c = .replyStart ∧ (∃ reply, p.port = .replying reply) ∧ p.transmitting = false
          ∧ reached p.replyWait 5000 = true := by
  simp only [dueLink, List.mem_append, mem_dueIf, Bool.and_eq_true, beq_iff_eq, replyWaits_iff,
    and_comm (b := c = _), and_assoc]
  rfl

theorem lineDue_iff (l : InputLine) :
    lineDue l = true ↔ l.high ≠ some l.raw ∧ l.setting.debounceMs * 1000 ≤ l.timer := by
  simp [lineDue]

/-- Settles O1: the front command is executed by definition; on an empty queue the due events are those listed, block by block. -/
theorem stepRunsFrontCommand : Obligations.StepRunsFrontCommand := by
  refine ⟨fun _ _ => rfl, ?_⟩
  intro s hs stood due up down contact
  have stepped : step s = .next (idle s) := by
    unfold step
    rw [hs]
  have listed (c : Instr) : c ∈ dueEvents s ↔ due c := by
    simp only [dueEvents, List.mem_append, mem_dueContacts, mem_dueLines, mem_dueDrive, mem_dueGates,
      mem_dueLink, reached_iff, pointDue_iff, lineDue_iff]
    constructor
    · rintro (((((⟨sw, rfl, h⟩ | ⟨rfl, h⟩) | ⟨i, rfl, h⟩)
        | ⟨rfl, h⟩ | ⟨rfl, h⟩ | ⟨rfl, h⟩ | ⟨rfl, h⟩ | ⟨rfl, h⟩ | ⟨rfl, h⟩)
        | ⟨rfl, h⟩ | ⟨rfl, h⟩ | ⟨rfl, h⟩ | ⟨rfl, h⟩) | ⟨rfl, h⟩ | ⟨rfl, h⟩)
      all_goals exact h
    · intro h
      cases c
      case frameSwitchSettled sw => exact .inl (.inl (.inl (.inl (.inl ⟨sw, rfl, h⟩))))
      case shutterConfirmSettled => exact .inl (.inl (.inl (.inl (.inr ⟨rfl, h⟩))))
      case inputDebounceExpiry i => exact .inl (.inl (.inl (.inr ⟨i, rfl, h⟩)))
      case replyStart => exact .inr (.inr ⟨rfl, h⟩)
      case silenceTimeout => exact .inr (.inl ⟨rfl, h⟩)
      case offTimeEnd | pwmPeriodStart | tripWindowEnd | homingTimeout | speedLoopRun | stallTimeout =>
        exact .inl (.inl (.inr (by simpa only [reduceCtorEq, true_and, false_and, false_or, or_false] using h)))
      case shutterWindowExpiry | pointTimerExpiry | subGateExpiry | recoveryDelayExpiry =>
        exact .inl (.inr (by simpa only [reduceCtorEq, true_and, false_and, false_or, or_false] using h))
      all_goals exact h.elim
  refine ⟨fun ⟨c, hc⟩ => ?_, fun none_due => ?_⟩
  · cases hd : dueEvents s with
    | nil => exact absurd ((listed c).2 hc) (by simp [hd])
    | cons first rest =>
      refine ⟨first, (listed first).1 (by simp [hd]), ?_⟩
      rw [stepped, idle, hd]
  · have none_listed : dueEvents s = [] :=
      List.eq_nil_iff_forall_not_mem.2 fun c hc => none_due c ((listed c).1 hc)
    rw [stepped, idle, none_listed]
    have lines : InputLine.tick = fun l =>
        { l with timer := if l.high = some l.raw then 0 else min 255000 (l.timer + 1) } := by
      funext l
      simp only [InputLine.tick, beq_iff_eq]
    simp only [oneMicrosecond, Standardize.tick, lines, beq_iff_eq]
    rfl

/-! ## Resets -/

/-- Settles O2: the state a power-on reset makes, column by column. -/
theorem powerOnReset : Obligations.PowerOnReset := by
  intro p s
  refine ⟨powerOn p s, rfl, ⟨rfl, rfl, rfl, rfl, rfl, rfl, rfl, rfl, rfl, rfl, rfl, rfl, rfl, rfl, ?_⟩,
    ⟨rfl, rfl, rfl, rfl, rfl, rfl, rfl, rfl, rfl⟩, ⟨rfl, rfl⟩, ⟨rfl, rfl, rfl, rfl⟩,
    ⟨rfl, rfl, rfl, rfl, rfl, rfl, rfl, rfl, rfl, rfl⟩,
    ⟨rfl, rfl, rfl, rfl, ?_, rfl, rfl, rfl, rfl, rfl, rfl, rfl, rfl⟩,
    ⟨rfl, rfl, rfl, rfl, rfl, rfl, rfl, rfl⟩, ⟨rfl, rfl, ?_, ?_, rfl, rfl, rfl⟩,
    ⟨rfl, rfl, rfl, rfl, rfl, rfl, rfl, rfl, rfl⟩⟩
  · intro sw
    cases sw <;> rfl
  · simp [powerOn, Standardize.powerOn, StdChannel.fresh]
  · intro l hl
    obtain ⟨raw, _, rfl⟩ := List.mem_map.1 (show l ∈ (rawLevels s).map (InputLine.fresh .powerOn) from hl)
    exact ⟨rfl, rfl, rfl, rfl⟩
  · simp [powerOn, LineUnit.powerOn, InputLine.fresh, rawLevels, Function.comp_def]

/-- R167, R174: with every line UNSETTLED the interlock is satisfied exactly when no line has the role. -/
theorem interlockFormed_fresh (lines : List InputLine) :
    interlockFormed (lines.map fun l => InputLine.fresh l.setting l.raw)
      = !lines.any fun l => l.setting.role == .interlock := by
  induction lines with
  | nil => rfl
  | cons l rest ih =>
    have : interlockFormed ((l :: rest).map fun l => InputLine.fresh l.setting l.raw)
        = ((l.setting.role != .interlock)
          && interlockFormed (rest.map fun l => InputLine.fresh l.setting l.raw)) := by
      simp [interlockFormed, InputLine.fresh, lineActive, lineState]
    rw [this, ih, List.any_cons, Bool.not_or]
    rfl

/-- Settles O3: the state a part reset makes, column by column. -/
theorem Certificates.partReset : Obligations.PartReset := by
  intro p s transmitting pending
  have ended : exec (.replyEnd p) s = .next (Machine.partReset p (listenAgain s)) := by
    change Host.Outcome.next (replyEnd p s) = _
    simp [replyEnd, transmitting, pending]
  refine ⟨_, ended, ⟨rfl, rfl, rfl, rfl, rfl, rfl, rfl, rfl, rfl, rfl, rfl, rfl, rfl, rfl, ?_⟩,
    ⟨rfl, rfl, rfl, rfl, rfl, rfl, rfl, rfl, rfl⟩, ⟨rfl, rfl⟩, rfl,
    ⟨rfl, rfl, rfl, ?_, rfl, ?_, rfl, rfl, rfl, rfl, rfl⟩,
    ⟨rfl, rfl, rfl, rfl, rfl, rfl, ?_, rfl, rfl, rfl, rfl, rfl, rfl, rfl, rfl⟩,
    ⟨rfl, rfl, rfl, rfl, rfl, rfl, rfl, rfl⟩, ⟨rfl, rfl, rfl, rfl, rfl, interlockFormed_fresh _⟩,
    ⟨rfl, rfl, rfl, rfl, rfl, ?_, rfl, rfl, rfl⟩⟩
  · intro sw
    cases sw <;> rfl
  · simp [Machine.partReset, ProfileBuilder.fresh]
  · intro z hz
    obtain rfl := List.eq_of_mem_replicate (show z ∈ List.replicate _ ProfileZone.emptied from hz)
    exact ⟨rfl, fun ch => by cases ch <;> rfl⟩
  · simp [Machine.partReset, resetStandardize, countdownFrom]
  · simp [Machine.partReset, resetLink, silenceFrom, listenAgain]

end Sys2Proof.Machine
end

section
/-! PROOFS. The link (09): frames taken and not acted on, replies, broadcasts, and the requests of the link itself. -/

namespace Sys2Proof.Machine

/-! ## Frame effects and the reply span (R178, R182, R184) -/

theorem frameTaken_eq (s : State) :
    frameTaken s =
      { s with
        slp :=
          { s.slp with
            silence := if s.slp.silenceTimeout = 0 then none else some (s.slp.silenceTimeout * 1000000) }
        plx := { s.plx with alarms := endIn .linkLost s.plx.alarms } } := by
  simp [frameTaken, silenceFrom, endAlarm, State.modSlp, State.modPlx]

/-- Settles O5: the frame effects by their definition, the reply span by the state of the port. -/
theorem frameEffectsAndReplySpan : Obligations.FrameEffectsAndReplySpan := by
  refine ⟨frameTaken_eq, fun reply s port quiet => ?_, fun p s transmitting settled => ?_⟩
  · change Host.Outcome.next (replyStart s) = _
    simp [replyStart, replyWaits, port, quiet, State.modSlp]
  · change Host.Outcome.next (replyEnd p s) = _
    simp [replyEnd, transmitting, settled, listenAgain, State.modSlp]

/-! ## Body lengths (R191) -/

/-- The walk of a part of a body: how many bytes it takes, if the body has them. -/
def taking (n : Nat) (l : List Byte) : Option (List Byte) := if n ≤ l.length then some (l.drop n) else none

theorem taking_of_short {n : Nat} {l : List Byte} (h : l.length < n) : taking n l = none :=
  if_neg (Nat.not_le.2 h)

theorem readPoints_rest (c : Nat) (l : List Byte) :
    (readPoints c l).map Prod.snd = taking (4 * c) l := by
  induction c generalizing l with
  | zero => simp [readPoints, taking]
  | succ c ih =>
    match l with
    | k0 :: k1 :: y0 :: y1 :: l =>
      have := ih l
      simp only [readPoints, Option.map_map, Function.comp_def, taking, List.length_cons] at this ⊢
      rw [this, show 4 * (c + 1) = 4 * c + 4 by ring]
      simp [List.drop_succ_cons]
    | [] | [_] | [_, _] | [_, _, _] =>
      exact (taking_of_short (by simp only [List.length_cons, List.length_nil]; omega)).symm

theorem readTable_rest (l : List Byte) : (readTable l).map Prod.snd = taking (1 + 4 * u8 l 0) l := by
  cases l with
  | nil => simp [readTable, taking]
  | cons c l =>
    rw [readTable, readPoints_rest]
    simp [taking, u8, Nat.add_comm 1]

theorem readMoisture_rest (present : Bool) (l : List Byte) :
    (readMoisture present l).map Prod.snd = taking (if present then 7 + 4 * u8 l 6 else 0) l := by
  cases present with
  | false => simp [readMoisture, taking]
  | true =>
    match l with
    | f0 :: f1 :: t0 :: t1 :: b0 :: b1 :: rest =>
      have := readTable_rest rest
      simp only [readMoisture, if_true, Option.map_map, Function.comp_def] at this ⊢
      rw [this]
      have : u8 (f0 :: f1 :: t0 :: t1 :: b0 :: b1 :: rest) 6 = u8 rest 0 := rfl
      simp only [taking, this, List.length_cons, show 7 + 4 * u8 rest 0 = 1 + 4 * u8 rest 0 + 6 by ring,
        List.drop_succ_cons, Nat.add_le_add_iff_right]
    | [] | [_] | [_, _] | [_, _, _] | [_, _, _, _] | [_, _, _, _, _] =>
      exact (taking_of_short (by simp only [List.length_cons, List.length_nil, if_true]; omega)).symm

theorem readCaliper_rest (present : Bool) (l : List Byte) :
    (readCaliper present l).map Prod.snd = taking (if present then 1 + 4 * u8 l 0 else 0) l := by
  cases present with
  | false => simp [readCaliper, taking]
  | true =>
    have := readTable_rest l
    simp only [readCaliper, if_true, Option.map_map, Function.comp_def]
    exact this

theorem u8_drop (n i : Nat) (l : List Byte) : u8 (l.drop n) i = u8 l (n + i) := by
  simp [u8]

/-- A walk is complete when its three parts are read and nothing is left. -/
theorem walkGrade_isSome (body : List Byte) :
    (walkGrade body).isSome = true ↔
      21 ≤ body.length ∧ ∃ r1 r2, (readTable (body.drop 21)).map Prod.snd = some r1
        ∧ (readMoisture (u8 body 20 % 2 == 1) r1).map Prod.snd = some r2
        ∧ (readCaliper (u8 body 20 / 2 % 2 == 1) r2).map Prod.snd = some [] := by
  unfold walkGrade
  by_cases hl : body.length < 21
  · simp [hl]
  simp only [hl, if_false, Nat.not_lt.1 hl, true_and]
  cases h1 : readTable (body.drop 21) with
  | none => simp
  | some x1 =>
    obtain ⟨t1, r1⟩ := x1
    cases h2 : readMoisture (u8 body 20 % 2 == 1) r1 with
    | none => simp [h2]
    | some x2 =>
      obtain ⟨m, r2⟩ := x2
      cases h3 : readCaliper (u8 body 20 / 2 % 2 == 1) r2 with
      | none => simp [h2, h3]
      | some x3 =>
        obtain ⟨t3, r3⟩ := x3
        cases r3 <;> simp [h2, h3]

theorem taking_eq_some {n : Nat} {l r : List Byte} : taking n l = some r ↔ n ≤ l.length ∧ r = l.drop n := by
  unfold taking
  split <;> simp [*, eq_comm]

/-- Three parts read one after another from an offset end at the last byte exactly when their lengths add up to it. -/
theorem taking_thrice (l : List Byte) (a : Nat) (f1 f2 f3 : List Byte → Nat) :
    (a ≤ l.length ∧ ∃ r1 r2, taking (f1 (l.drop a)) (l.drop a) = some r1 ∧ taking (f2 r1) r1 = some r2
        ∧ taking (f3 r2) r2 = some []) ↔
      l.length = a + f1 (l.drop a) + f2 (l.drop (a + f1 (l.drop a)))
        + f3 (l.drop (a + f1 (l.drop a) + f2 (l.drop (a + f1 (l.drop a))))) := by
  simp only [taking_eq_some]
  constructor
  · rintro ⟨hl, r1, r2, ⟨h1, rfl⟩, ⟨h2, rfl⟩, h3, h4⟩
    have h4 := congrArg List.length h4
    simp only [List.length_drop, List.length_nil, List.drop_drop] at h1 h2 h3 h4
    omega
  · intro h
    refine ⟨by omega, _, _, ⟨?_, rfl⟩, ⟨?_, rfl⟩, ?_, ?_⟩
    · rw [List.length_drop]
      omega
    · simp only [List.length_drop, List.drop_drop]
      omega
    · simp only [List.length_drop, List.drop_drop]
      omega
    · rw [eq_comm, List.drop_eq_nil_iff]
      simp only [List.length_drop, List.drop_drop]
      omega

/-- R191: the length of a LOAD_GRADE body by its counts and its parts byte. -/
theorem walkGrade_length (body : List Byte) :
    (walkGrade body).isSome = true ↔
      body.length =
        (let parts := u8 body 20
        let afterBw := 22 + 4 * u8 body 21
        let afterMoisture :=
          if parts.testBit 0 then afterBw + 7 + 4 * u8 body (afterBw + 6) else afterBw
        if parts.testBit 1 then afterMoisture + 1 + 4 * u8 body afterMoisture else afterMoisture) := by
  have bit0 : (u8 body 20 % 2 == 1) = (u8 body 20).testBit 0 := by simp [Nat.testBit_zero, beq_eq_decide]
  have bit1 : (u8 body 20 / 2 % 2 == 1) = (u8 body 20).testBit 1 := by
    rw [Nat.testBit_succ, Nat.testBit_zero]
    rfl
  rw [walkGrade_isSome, bit0, bit1]
  simp only [readTable_rest, readMoisture_rest, readCaliper_rest]
  rw [taking_thrice body 21 (fun r => 1 + 4 * u8 r 0)
    (fun r => if (u8 body 20).testBit 0 then 7 + 4 * u8 r 6 else 0)
    (fun r => if (u8 body 20).testBit 1 then 1 + 4 * u8 r 0 else 0)]
  simp only [u8_drop, Nat.add_zero, show 21 + (1 + 4 * u8 body 21) = 22 + 4 * u8 body 21 by omega]
  cases (u8 body 20).testBit 0 <;> cases (u8 body 20).testBit 1 <;>
    simp only [if_true, Bool.false_eq_true, if_false, Nat.add_zero, Nat.add_assoc]

/-! ## Frames not acted on (R178 to R180) -/

theorem kindOf_eq_none {code : Nat} (h : ∀ k, kindCode k ≠ code) : kindOf code = none := by
  simp only [kindOf, List.find?_eq_none, beq_iff_eq]
  exact fun k _ => h k

/-- R178: in REPLYING, a reply, or a frame to another address is discarded. -/
theorem acceptFrame_discarded {kind : Nat} {f : Frame} {s : State}
    (h : (∃ reply, s.slp.port = .replying reply) ∨ 0x80 ≤ kind
      ∨ (f.address.toNat ≠ 15 ∧ f.address.toNat ≠ s.slp.address)) : acceptFrame kind f s = s := by
  unfold acceptFrame
  cases hp : s.slp.port with
  | replying reply => rfl
  | listening =>
    rcases h with ⟨reply, hr⟩ | hk | ⟨broadcast, own⟩
    · simp [hp] at hr
    · simp [hk]
    · simp [broadcast, own, Config.broadcastAddress]

/-- R178: below 0x80 a frame to the broadcast address is taken as a broadcast. -/
theorem acceptFrame_of_broadcast {kind : Nat} {f : Frame} {s : State} (h : Broadcasts f s)
    (hk : kind < 0x80) : acceptFrame kind f s = takeBroadcast kind f.body (frameTaken s) := by
  obtain ⟨port, address⟩ := h
  simp [acceptFrame, port, address, Nat.not_le.2 hk, Config.broadcastAddress]

/-- Settles O4: by the dispatch of a frame that is taken, the discard of the others, and the lengths of the bodies. -/
theorem framesNotActedOn : Obligations.FramesNotActedOn := by
  refine ⟨⟨fun kind f s h hk unknown => ?_, fun k f s h unfit => ?_⟩,
    fun kind f s => ⟨fun h => ?_, fun h hk unknown => ?_⟩, fun k body => ?_⟩
  · change Host.Outcome.next (acceptFrame kind.toNat f s) = _
    rw [acceptFrame_of_addressed h hk, takeAddressed, dispatch, kindOf_eq_none unknown]
    rfl
  · rw [exec_requestOf, acceptFrame_of_addressed h (kindCode_lt k), takeAddressed, dispatch,
      kindOf_kindCode]
    simp only [unfit, Bool.false_eq_true, if_false]
    rfl
  · have discarded := acceptFrame_discarded h
    refine ⟨congrArg _ discarded, congrArg _ discarded, fun k hk => ?_⟩
    rw [exec_requestOf, hk, discarded]
  · have taken : acceptFrame kind.toNat f s = frameTaken s := by
      rw [acceptFrame_of_broadcast h hk, takeBroadcast, kindOf_eq_none unknown]
    exact ⟨congrArg _ taken, congrArg _ taken⟩
  · cases k
    case loadGrade => exact walkGrade_length body
    all_goals exact beq_iff_eq

/-! ## Replies (R179, R181, R183) -/

/-- R179: a refusal changes nothing and carries no record, and a record goes with DONE only. -/
structure Answer.Proper (s : State) (a : Answer) : Prop where
  refused : 0x10 ≤ replyCode a.code → a.state = s ∧ a.record = []
  record : a.record ≠ [] → a.code = .done

@[simp] theorem proper_refuse (code : ReplyCode) (s : State) : (refuse code s).Proper s :=
  ⟨fun _ => ⟨rfl, rfl⟩, fun h => absurd rfl h⟩

theorem proper_plain {code : ReplyCode} (u : State) {s : State} (h : replyCode code < 0x10) :
    (plain code u).Proper s := ⟨fun hc => absurd h (Nat.not_lt.2 hc), fun h => absurd rfl h⟩

@[simp] theorem proper_done (u s : State) : (plain .done u).Proper s := proper_plain u (by decide)

@[simp] theorem proper_accepted (u s : State) : (plain .accepted u).Proper s := proper_plain u (by decide)

@[simp] theorem proper_empty (u s : State) : (plain .empty u).Proper s := proper_plain u (by decide)

@[simp] theorem proper_answered (record : List Byte) (u s : State) : (answered record u).Proper s :=
  ⟨fun h => absurd h (Nat.not_le.2 (by decide : replyCode .done < 0x10)), fun _ => rfl⟩

theorem scanByState_proper (s : State) : (scanByState s).Proper s := by
  unfold scanByState
  dsimp only
  split <;> simp

theorem answerScan_proper (body : List Byte) (s : State) : (answerScan body s).Proper s := by
  unfold answerScan scanInBreak
  (repeat' split) <;> simp [scanByState_proper]

theorem answerPark_proper (s : State) : (answerPark s).Proper s := by
  unfold answerPark parkByState
  dsimp only
  (repeat' split) <;> simp

theorem answerPoint_proper (body : List Byte) (s : State) : (answerPoint body s).Proper s := by
  unfold answerPoint pointByState
  dsimp only
  (repeat' split) <;> simp

theorem answerSelectGrade_proper (body : List Byte) (s : State) : (answerSelectGrade body s).Proper s := by
  unfold answerSelectGrade selectScanning selectNow
  dsimp only
  (repeat' split) <;> simp

theorem answerReadProfile_proper (body : List Byte) (s : State) : (answerReadProfile body s).Proper s := by
  unfold answerReadProfile readProfileOf
  dsimp only
  (repeat' split) <;> simp

theorem answerAckAlarm_proper (body : List Byte) (s : State) : (answerAckAlarm body s).Proper s := by
  unfold answerAckAlarm acknowledge
  (repeat' split) <;> simp

/-- R179: every owner refuses without effect. -/
theorem answerTo_proper (k : ReqKind) (body : List Byte) (s : State) : (answerTo k body s).Proper s := by
  cases k
  case scan => exact answerScan_proper body s
  case park => exact answerPark_proper s
  case point => exact answerPoint_proper body s
  case selectGrade => exact answerSelectGrade_proper body s
  case readProfile => exact answerReadProfile_proper body s
  case ackAlarm => exact answerAckAlarm_proper body s
  all_goals
    simp only [answerTo, answerIdentify, answerStatus, answerService, answerResetPart, answerHome,
      answerStop, answerClearFault, answerSetDrive, answerSetGeometry, answerLoadGrade,
      answerReadGrade, answerFetchSummary, answerReadTrend, answerClearProfiles,
      answerSetStandardize, answerStandardize, answerReadStandardize, answerSetBreak,
      answerReadBreak, answerClearBreakCause, answerReadAlarms, answerSetLines, answerReadLines,
      answerDriveOutputs]
    (repeat' split) <;> simp

theorem dispatch_proper (kind : Nat) (body : List Byte) (s : State) : (dispatch kind body s).Proper s := by
  unfold dispatch
  (repeat' split) <;> simp [answerTo_proper]

/-- The port, the address and the reply in progress of a link port; no owner changes them. -/
def LinkPort.span (p : LinkPort) : Port × Nat × Bool × Option Nat :=
  (p.port, p.address, p.transmitting, p.replyWait)

theorem answerTo_span (k : ReqKind) (body : List Byte) (s : State) :
    (answerTo k body s).state.slp.span = s.slp.span := by
  cases k
  case status => rfl
  case service =>
    simp only [answerTo, answerService]
    split <;> rfl
  case resetPart =>
    simp only [answerTo, answerResetPart]
    split <;> rfl
  all_goals simp [answerTo]

theorem dispatch_span (kind : Nat) (body : List Byte) (s : State) :
    (dispatch kind body s).state.slp.span = s.slp.span := by
  unfold dispatch
  (repeat' split) <;> simp [answerTo_span]

/-! ## The attention byte (R190) -/

theorem bitsOf_testBit (l : List Bool) (i : Nat) : (bitsOf l).testBit i = l.getD i false := by
  induction l generalizing i with
  | nil => simp [bitsOf]
  | cons b l ih =>
    have double : bitsOf (b :: l) = Nat.bit b (bitsOf l) := by
      cases b <;> simp [bitsOf, Nat.bit, Nat.add_comm]
    cases i with
    | zero => simp [double]
    | succ i => simp [double, Nat.testBit_bit_succ, ih]

theorem bitsOf_lt (l : List Bool) : bitsOf l < 2 ^ l.length := by
  induction l with
  | nil => simp [bitsOf]
  | cons b l ih =>
    rw [bitsOf, List.length_cons, Nat.pow_succ]
    split <;> omega

theorem isFaulted_iff {state : TraverseState} : isFaulted state = true ↔ ∃ kind, state = .faulted kind := by
  cases state <;> simp [isFaulted]

/-- Settles O6: every owner refuses without effect and leaves the span of the port; the codes and the attention bits by their tables. -/
theorem requestsAnswered : Obligations.RequestsAnswered := by
  refine ⟨fun k f s h => ?_, fun s => ?_, fun code => ?_, fun state => ?_, fun state => ?_, fun k => ?_⟩
  · let a := dispatch (kindCode k) f.body (frameTaken s)
    have span := dispatch_span (kindCode k) f.body (frameTaken s)
    simp only [LinkPort.span, Prod.mk.injEq] at span
    obtain ⟨port, address, -⟩ := span
    have proper : a.Proper (frameTaken s) := dispatch_proper _ _ _
    refine ⟨a.code, a.record, a.state, ?_, port.trans h.1, address, proper.refused, proper.record⟩
    rw [exec_requestOf, acceptFrame_of_addressed h (kindCode_lt k)]
    rfl
  · have small : attention s < 2 ^ 7 := bitsOf_lt _
    simp only [attention, bitsOf_testBit]
    simp [isFaulted_iff, show bitsOf _ < 128 from small]
  · cases code <;> rfl
  · cases state <;> rfl
  · cases state <;> rfl
  · cases k <;> rfl

/-! ## Broadcasts (R180) -/

theorem exec_of_broadcast (k : ReqKind) {f : Frame} {s : State} (h : Broadcasts f s) :
    exec (requestOf k f) s =
      .next
        (if actsOnBroadcast k && bodyFits k f.body then (answerTo k f.body (frameTaken s)).state
        else frameTaken s) := by
  rw [exec_requestOf, acceptFrame_of_broadcast h (kindCode_lt k), takeBroadcast, kindOf_kindCode]

/-- The reply of an answer, with the span of the port put back, is the state the answer leaves. -/
theorem reply_unspanned (k : ReqKind) (f : Frame) (a : Answer) {p : LinkPort}
    (h : a.state.slp.span = p.span) :
    { a.reply k f with
      slp :=
        { (a.reply k f).slp with
          port := p.port, transmitting := p.transmitting, replyWait := p.replyWait } } = a.state := by
  simp only [LinkPort.span, Prod.mk.injEq] at h
  obtain ⟨port, -, transmitting, wait⟩ := h
  rw [← port, ← transmitting, ← wait]
  rfl

/-- Settles O7: a broadcast leaves what its owner leaves, which is the addressed reply without its span. -/
theorem broadcastsActInSilence : Obligations.BroadcastsActInSilence := by
  refine ⟨fun k => by cases k <;> simp [actsOnBroadcast], fun k f s h => ⟨fun idle => ?_, fun acts fits => ?_⟩⟩
  · rw [exec_of_broadcast k h, if_neg]
    rcases idle with idle | idle <;> simp [idle]
  · have taken : exec (requestOf k f) s = .next (answerTo k f.body (frameTaken s)).state := by
      simp [exec_of_broadcast k h, acts, fits]
    refine ⟨taken, fun g hg same => ⟨_, exec_of_addressed k hg (same ▸ fits), ?_⟩⟩
    rw [taken, same, ← h.1]
    exact congrArg _ (reply_unspanned k g _ (answerTo_span k f.body _)).symm

/-! ## The requests of the link (R185 to R188) -/

/-- Settles O10: the owners' answers, under the reply to an addressed request. -/
theorem linkRequests : Obligations.LinkRequests := by
  constructor <;> intro f s h
  · intro hb t
    exact ⟨exec_of_addressed .identify h (by simp [bodyFits, hb]),
      exec_of_addressed .status h (by simp [bodyFits, hb])⟩
  intro t
  refine ⟨fun timeout hb => ?_, fun hb => ?_⟩
  · refine (exec_of_addressed .service h (by simp [bodyFits, hb])).trans (congrArg _ ?_)
    simp only [answerTo, answerService, hb, silenceFrom, beq_iff_eq,
      apply_ite (Answer.reply .service f), reply_refuse, reply_plain]
    rfl
  · refine (exec_of_addressed .resetPart h (by simp [bodyFits, hb])).trans (congrArg _ ?_)
    rw [answerTo, answerResetPart, frameTaken_trc, apply_ite (Answer.reply .resetPart f), reply_refuse,
      reply_plain]
    cases s.trc.state <;> rfl

end Sys2Proof.Machine
end

section
/-! PROOFS. The bytes of the frames and records (10): what is read at an offset of a list of fields. -/

namespace Sys2Proof.Machine

/-! ## Single bytes -/

@[simp] theorem toNat_byteOf (n : Nat) : (byteOf n).toNat = n % 256 := rfl

@[simp] theorem u8_cons_zero (b : Byte) (l : List Byte) : u8 (b :: l) 0 = b.toNat := rfl

@[simp] theorem u8_cons_succ (b : Byte) (l : List Byte) (i : Nat) : u8 (b :: l) (i + 1) = u8 l i := rfl

@[simp] theorem u8_nil (i : Nat) : u8 [] i = 0 := rfl

@[simp] theorem le16_length (n : Nat) : (le16 n).length = 2 := by simp [le16]

@[simp] theorem le32_length (n : Nat) : (le32 n).length = 4 := by simp [le32]

@[simp] theorem signed16_length (n : Int) : (signed16 n).length = 2 := le16_length _

@[simp] theorem signed32_length (n : Int) : (signed32 n).length = 4 := le32_length _

/-! ## Fields past a part of the list, and inside it -/

@[simp] theorem u16_cons_succ (b : Byte) (l : List Byte) (i : Nat) : u16 (b :: l) (i + 1) = u16 l i := rfl

@[simp] theorem u32_cons_succ (b : Byte) (l : List Byte) (i : Nat) : u32 (b :: l) (i + 1) = u32 l i := rfl

@[simp] theorem u8_append_right {l : List Byte} (r : List Byte) {i : Nat} (h : l.length ≤ i) :
    u8 (l ++ r) i = u8 r (i - l.length) := by
  simp [u8, List.getElem?_append_right h]

@[simp] theorem u8_append_left {l : List Byte} (r : List Byte) {i : Nat} (h : i < l.length) :
    u8 (l ++ r) i = u8 l i := by
  simp [u8, List.getElem?_append_left h]

@[simp] theorem u16_append_right {l : List Byte} (r : List Byte) {i : Nat} (h : l.length ≤ i) :
    u16 (l ++ r) i = u16 r (i - l.length) := by
  rw [u16, u8_append_right r h, u8_append_right r (by omega), Nat.sub_add_comm h, u16]

@[simp] theorem u16_append_left {l : List Byte} (r : List Byte) {i : Nat} (h : i + 1 < l.length) :
    u16 (l ++ r) i = u16 l i := by
  rw [u16, u8_append_left r (by omega), u8_append_left r h, u16]

@[simp] theorem u32_append_right {l : List Byte} (r : List Byte) {i : Nat} (h : l.length ≤ i) :
    u32 (l ++ r) i = u32 r (i - l.length) := by
  rw [u32, u16_append_right r h, u16_append_right r (by omega), Nat.sub_add_comm h, u32]

@[simp] theorem u32_append_left {l : List Byte} (r : List Byte) {i : Nat} (h : i + 3 < l.length) :
    u32 (l ++ r) i = u32 l i := by
  rw [u32, u16_append_left r (by omega), u16_append_left r (by omega), u32]

/-! ## The fields themselves -/

@[simp] theorem u16_le16 (n : Nat) : u16 (le16 n) 0 = n % 65536 := by
  simp only [u16, le16, Nat.zero_add, u8_cons_zero, u8_cons_succ, toNat_byteOf]
  omega

@[simp] theorem u32_le32 (n : Nat) : u32 (le32 n) 0 = n % 4294967296 := by
  simp only [u32, u16, le32, Nat.zero_add, u8_cons_zero, u8_cons_succ, toNat_byteOf]
  omega

@[simp] theorem u16_signed16 (n : Int) : (u16 (signed16 n) 0 : Int) = n % 65536 := by
  rw [signed16, u16_le16]
  omega

@[simp] theorem u32_signed32 (n : Int) : (u32 (signed32 n) 0 : Int) = n % 4294967296 := by
  rw [signed32, u32_le32]
  omega

/-- Up to eight flags fit a byte. -/
theorem bitsOf_mod {l : List Bool} (h : l.length ≤ 8) : bitsOf l % 256 = bitsOf l := by
  rw [Nat.mod_eq_of_lt]
  calc bitsOf l < 2 ^ l.length := bitsOf_lt l
    _ ≤ 2 ^ 8 := Nat.pow_le_pow_right (by decide) h

theorem testBit_bitsOf_mod {l : List Bool} (h : l.length ≤ 8) (j : Nat) :
    (bitsOf l % 256).testBit j = l.getD j false := by
  rw [bitsOf_mod h, bitsOf_testBit]

/-! ## Records read back (R190 to R192) -/

theorem readDrive_driveBytes {d : DriveRecord} (h : d.inRange = true) : readDrive (driveBytes d) = d := by
  rw [driveRecord_inRange_iff] at h
  obtain ⟨kp, stall, off, transit, homing⟩ := h
  have off : d.offTimeMs ≤ 8 := by
    simp only [List.mem_cons, List.not_mem_nil, or_false] at off
    omega
  cases d
  simp only at kp stall off transit homing
  simp [readDrive, driveBytes]
  omega

theorem readGeometry_geometryBytes {g : Geometry} (h : g.inRange = true) :
    readGeometry (geometryBytes g) = g := by
  simp only [Geometry.inRange, Bool.and_eq_true, decide_eq_true_eq] at h
  cases g
  simp only at h
  simp [readGeometry, geometryBytes]
  omega

theorem readStdSettings_stdSettingsBytes {r : StdSettings} (h : r.inRange = true) :
    readStdSettings (stdSettingsBytes r) = r := by
  simp only [StdSettings.inRange, Bool.and_eq_true, decide_eq_true_eq] at h
  cases r
  simp only at h
  simp [readStdSettings, stdSettingsBytes]
  omega

/-! ## Grade records read back (R191) -/

theorem readPoints_pointBytes (t : Table) (rest : List Byte) (h : ∀ p ∈ t, p.1 ≤ 65535 ∧ p.2 ≤ 65535) :
    readPoints t.length ((t.flatMap fun p => le16 p.1 ++ le16 p.2) ++ rest) = some (t, rest) := by
  induction t with
  | nil => rfl
  | cons p t ih =>
    obtain ⟨⟨key, value⟩, tail⟩ := List.forall_mem_cons.1 h
    simp only [List.length_cons, List.flatMap_cons, le16, List.cons_append, List.nil_append, readPoints,
      toNat_byteOf]
    simp only [le16, List.cons_append, List.nil_append] at ih
    rw [ih tail, Option.map_some]
    congr 3
    ext <;> dsimp only <;> omega

theorem readTable_tableBytes {t : Table} (h : tableValid t = true) (rest : List Byte) :
    readTable (tableBytes t ++ rest) = some (t, rest) := by
  simp only [tableValid, Bool.and_eq_true, decide_eq_true_eq, List.all_eq_true] at h
  obtain ⟨⟨⟨-, short⟩, small⟩, -⟩ := h
  rw [tableBytes, List.cons_append, readTable, toNat_byteOf, Nat.mod_eq_of_lt (by omega)]
  exact readPoints_pointBytes t rest small

theorem readMoisture_moistureBytes {m : Option MoisturePart} (h : m.all MoisturePart.inRange = true)
    (rest : List Byte) : readMoisture m.isSome (moistureBytes m ++ rest) = some (m, rest) := by
  cases m with
  | none => rfl
  | some m =>
    simp only [Option.all_some, MoisturePart.inRange, Bool.and_eq_true, decide_eq_true_eq] at h
    obtain ⟨⟨⟨table, floor⟩, target⟩, band⟩ := h
    simp only [readMoisture, Option.isSome_some, if_true, moistureBytes, le16, List.cons_append,
      List.nil_append, readTable_tableBytes table rest, Option.map_some, toNat_byteOf]
    congr 3
    cases m
    simp only [MoisturePart.mk.injEq, true_and] at floor target band ⊢
    omega

theorem readCaliper_caliperBytes {t : Option Table} (h : t.all tableValid = true) (rest : List Byte) :
    readCaliper t.isSome (caliperBytes t ++ rest) = some (t, rest) := by
  cases t with
  | none => rfl
  | some t => simp [readCaliper, caliperBytes, readTable_tableBytes h rest]

theorem walkGrade_gradeBytes {slot : Nat} {g : GradeRecord} (hs : slot ≤ 255) (h : g.inRange = true) :
    walkGrade (gradeBytes slot g) = some { slot := slot, parts := partsByte g, record := g } := by
  simp only [GradeRecord.inRange, Bool.and_eq_true, decide_eq_true_eq] at h
  obtain ⟨⟨⟨⟨⟨⟨⟨⟨⟨⟨⟨⟨⟨code, speed⟩, table⟩, target⟩, band⟩, threshold⟩, guard⟩, sheet⟩, least⟩, run⟩, shift⟩,
    spread⟩, moisture⟩, caliper⟩ := h
  have parts : u8 (gradeBytes slot g) 20 = partsByte g := by
    simp [gradeBytes, partsByte]
    split <;> split <;> decide
  have tail : (gradeBytes slot g).drop 21 =
      tableBytes g.bwTable ++ (moistureBytes g.moisture ++ (caliperBytes g.caliper ++ [])) := by
    simp [gradeBytes, le16]
  have long : ¬ (gradeBytes slot g).length < 21 := by
    simp [gradeBytes]
    omega
  have first : (partsByte g % 2 == 1) = g.moisture.isSome := by
    unfold partsByte
    split <;> split <;> simp_all
  have second : (partsByte g / 2 % 2 == 1) = g.caliper.isSome := by
    unfold partsByte
    split <;> split <;> simp_all
  simp only [walkGrade, if_neg long, parts, tail, readTable_tableBytes table, first, second,
    readMoisture_moistureBytes moisture, readCaliper_caliperBytes caliper]
  cases g
  simp only at code speed target band threshold guard sheet least run shift spread
  simp [gradeBytes]
  omega

/-- Settles O60: each record is read back field by field; the tables of a grade by their lengths. -/
theorem recordsReadBack : Obligations.RecordsReadBack := by
  refine ⟨fun slot g hs h => walkGrade_gradeBytes hs h, fun g h => ⟨?_, readGeometry_geometryBytes h⟩,
    fun d h => ⟨?_, readDrive_driveBytes h⟩, fun r h => ⟨?_, readStdSettings_stdSettingsBytes h⟩⟩
  · simp [geometryBytes]
  · simp [driveBytes]
  · simp [stdSettingsBytes]

end Sys2Proof.Machine
end

section
/-! PROOFS. The reply records (10.3, 10.4), field by field. -/

namespace Sys2Proof.Machine

@[simp] theorem toNat_bitByte (b : Bool) : (bitByte b).toNat = if b then 1 else 0 := by cases b <;> rfl

theorem statusRecord_length (s : State) : (statusRecord s).length = 41 := by
  simp [statusRecord, statusTraverse, statusRest, countdownBytes]

/-- The flags of a traverse state in the second STATUS byte (R192), but for homed and the dwell hold. -/
def stateFlags (s : State) : List Bool :=
  match s.trc.state with
  | .scanning d phase approach park => [d == .rev, phase == .turn, approach, park, false, false]
  | .dwell resume =>
    [false, false, false, false, resume
     , match s.sdu.dwell with
       | some d => d.step != .dark
       | none => false]
  | _ => List.replicate 6 false

theorem stateFlags_length (s : State) : (stateFlags s).length = 6 := by
  unfold stateFlags
  cases s.trc.state <;> rfl

theorem traverseFlags_eq (s : State) :
    traverseFlags s = bitsOf ([s.trc.homed] ++ stateFlags s ++ [s.trc.dwellHold]) := by
  unfold traverseFlags stateFlags
  cases s.trc.state <;> rfl

theorem targetField_eq (s : State) :
    targetField s =
      match s.trc.state with
      | .transit .park _ => (s.gtu.geometry.map Geometry.P).getD 0
      | .transit (.point position _) _ => position
      | .point position _ => position
      | _ => 0 := by
  unfold targetField
  cases s.trc.state with
  | transit target _ => cases target <;> cases s.gtu.geometry <;> rfl
  | _ => cases s.gtu.geometry <;> rfl

theorem periodField_eq (state : TraverseState) :
    periodField state =
      match state with
      | .transit (.point _ ms) _ => ms
      | .point _ ms => ms
      | _ => 0 := by
  cases state with
  | transit target _ => cases target <;> rfl
  | _ => rfl

theorem accHeldCount_eq (s : State) :
    accHeldCount s =
      [AccId.acc0, AccId.acc1].countP fun a => s.pfb.contexts.any fun c => c.accumulator == some a := by
  simp [accHeldCount, accHeld, List.countP_cons, Nat.add_comm]

theorem machineRunCode_lt (lines : List InputLine) : machineRunCode lines < 256 := by
  unfold machineRunCode
  split
  · split <;> decide
  · decide

theorem kindBits_mod (kinds : List AlarmKind) : kindBits kinds % 65536 = kindBits kinds :=
  Nat.mod_eq_of_lt (Nat.lt_of_lt_of_eq (bitsOf_lt _) (by simp))

theorem u16_drop (n i : Nat) (l : List Byte) : u16 (l.drop n) i = u16 l (n + i) := by
  simp only [u16, u8_drop, Nat.add_assoc]

/-- Past a part of known length stands what follows it. -/
theorem drop_past {r l post : List Byte} {o n : Nat} (h : r.drop o = l ++ post) (hn : l.length = n) :
    r.drop (o + n) = post := by
  rw [← List.drop_drop, h, ← hn, List.drop_left]

theorem u32_drop (n i : Nat) (l : List Byte) : u32 (l.drop n) i = u32 l (n + i) := by
  simp only [u32, u16_drop, Nat.add_assoc]

@[simp] theorem figureBytes_length (status : ChannelStatus) : (figureBytes status).length = 12 := by
  cases status <;> simp [figureBytes, zoneBytes]

@[simp] theorem channelBlock_length (c : ChannelSummary) : (channelBlock c).length = 17 := by
  simp [channelBlock]

/-! ## FETCH_SUMMARY (R192) -/

theorem kindBits_testBit (kinds : List AlarmKind) (j : Nat) (k : AlarmKind)
    (h : [AlarmKind.sheetBreak, .edgeHole, .bwDeviation, .moiDeviation, .bwSpread, .stdRejected, .stdPersistent
      , .shutter, .driveCurrent, .driveStall, .overtravel, .homingFailed, .interlock, .sampleOverrun
      , .linkLost, .scanSkipped][j]? = some k) :
    (kindBits kinds % 65536).testBit j = decide (k ∈ kinds) := by
  rw [kindBits_mod, kindBits, bitsOf_testBit, List.getD_eq_getElem?_getD, List.getElem?_map, h]
  simp

/-- The fields of a channel block at an offset of a record. -/
def ChannelAt (r : List Byte) (o : Nat) (c : ChannelSummary) : Prop :=
  u16 r (o + 1) = c.n % 65536 ∧ u16 r (o + 15) = c.clampedSlots % 65536
    ∧ match c.status with
      | .ok f =>
        u8 r o = 0 ∧ u16 r (o + 3) = f.mean % 65536 ∧ u16 r (o + 5) = f.twoSigma % 65536
          ∧ u16 r (o + 7) = f.least % 65536 ∧ u16 r (o + 9) = f.leastZone % 65536
          ∧ u16 r (o + 11) = f.greatest % 65536 ∧ u16 r (o + 13) = f.greatestZone % 65536
      | other =>
        u8 r o = (if other = .noData then 1 else 2) ∧ u16 r (o + 3) = 0 ∧ u16 r (o + 5) = 0
          ∧ u16 r (o + 7) = 0 ∧ u16 r (o + 9) = 0xFFFF ∧ u16 r (o + 11) = 0 ∧ u16 r (o + 13) = 0xFFFF

theorem channelAt_of_drop {r post : List Byte} {o : Nat} {c : ChannelSummary}
    (h : r.drop o = channelBlock c ++ post) : ChannelAt r o c := by
  have status : u8 r o = channelStatusCode c.status % 256 := by
    rw [← Nat.add_zero o, ← u8_drop, h]
    simp [channelBlock]
  simp only [ChannelAt, status, ← u16_drop, h, channelBlock]
  refine ⟨by simp, by simp, ?_⟩
  cases c.status <;> simp [figureBytes, zoneBytes, channelStatusCode, zoneCode]

theorem summaryRecord_drop (x : Summary) :
    (summaryRecord x).drop 19 =
      channelBlock x.channels.bw ++ (channelBlock x.channels.moi ++ (channelBlock x.channels.cal
        ++ (channelBlock x.channels.dry ++ []))) := by
  simp [summaryRecord, zoneBytes, le32, le16]

theorem summaryRecord_channels (x : Summary) :
    ChannelAt (summaryRecord x) 19 x.channels.bw ∧ ChannelAt (summaryRecord x) 36 x.channels.moi
      ∧ ChannelAt (summaryRecord x) 53 x.channels.cal ∧ ChannelAt (summaryRecord x) 70 x.channels.dry := by
  have bw := summaryRecord_drop x
  have moi := drop_past bw (channelBlock_length _)
  have cal := drop_past moi (channelBlock_length _)
  have dry := drop_past cal (channelBlock_length _)
  exact ⟨channelAt_of_drop bw, channelAt_of_drop moi, channelAt_of_drop cal, channelAt_of_drop dry⟩

/-! ## READ_STANDARDIZE (R192) -/

/-- The fields of a channel block of the standardize record at an offset. -/
def StdChannelAt (r : List Byte) (o : Nat) (c : StdChannel) : Prop :=
  u8 r o =
      (match c.result with
      | .noResult => 0
      | .adopted => 1
      | .first => 2
      | .rejected _ => 3)
    ∧ u8 r (o + 1) =
        (match c.result with
        | .rejected .darkShutter => 1
        | .rejected .saturated => 2
        | .rejected .noReferenceBand => 3
        | .rejected .zero => 4
        | .rejected .drift => 5
        | _ => 0)
    ∧ (∀ j, (u8 r (o + 2)).testBit j = [c.candidate.isSome, c.drift.isSome, c.suspect].getD j false)
    ∧ u32 r (o + 3) = c.candidate.getD 0 % 4294967296 ∧ u16 r (o + 7) = c.drift.getD 0 % 65536
    ∧ u8 r (o + 9) = c.rejects % 256

@[simp] theorem stdChannelBlock_length (c : StdChannel) : (stdChannelBlock c).length = 10 := by
  simp [stdChannelBlock]

theorem resultCode_eq (result : StdResult) :
    resultCode result % 256 =
      match result with
      | .noResult => 0
      | .adopted => 1
      | .first => 2
      | .rejected _ => 3 := by
  cases result <;> rfl

theorem reasonCode_eq (result : StdResult) :
    reasonCode result % 256 =
      match result with
      | .rejected .darkShutter => 1
      | .rejected .saturated => 2
      | .rejected .noReferenceBand => 3
      | .rejected .zero => 4
      | .rejected .drift => 5
      | _ => 0 := by
  cases result with
  | rejected reason => cases reason <;> rfl
  | _ => rfl

theorem stdChannelAt_of_drop {r post : List Byte} {o : Nat} {c : StdChannel}
    (h : r.drop o = stdChannelBlock c ++ post) : StdChannelAt r o c := by
  have first : u8 r o = resultCode c.result % 256 := by
    rw [← Nat.add_zero o, ← u8_drop, h]
    simp [stdChannelBlock]
  have flags : u8 r (o + 2) = bitsOf [c.candidate.isSome, c.drift.isSome, c.suspect] % 256 := by
    rw [← u8_drop, h]
    simp [stdChannelBlock]
  have reason : u8 r (o + 1) = reasonCode c.result % 256 := by
    rw [← u8_drop, h]
    simp [stdChannelBlock]
  refine ⟨first.trans (resultCode_eq _), reason.trans (reasonCode_eq _), fun j => ?_, ?_⟩
  · rw [flags, testBit_bitsOf_mod (by simp)]
  · simp only [← u8_drop, ← u16_drop, ← u32_drop, h, stdChannelBlock]
    simp

theorem standardizeRecord_channels (u : Standardize) :
    StdChannelAt (standardizeRecord u) 22 u.bw ∧ StdChannelAt (standardizeRecord u) 32 u.moi
      ∧ StdChannelAt (standardizeRecord u) 42 u.cal := by
  have bw : (standardizeRecord u).drop 22 =
      stdChannelBlock u.bw ++ (stdChannelBlock u.moi ++ (stdChannelBlock u.cal
        ++ ([bitByte u.wanted] ++ countdownBytes u.countdown ++ le32 u.lastScan
          ++ [byteOf (dwellCode (u.dwell.map DwellRecord.step))]))) := by
    simp [standardizeRecord, stdSettingsBytes, le32, le16]
  have moi := drop_past bw (stdChannelBlock_length _)
  have cal := drop_past moi (stdChannelBlock_length _)
  exact ⟨stdChannelAt_of_drop bw, stdChannelAt_of_drop moi, stdChannelAt_of_drop cal⟩

/-! ## READ_BREAK (R192) -/

@[simp] theorem causeBytes_length (c : Option BreakCause) : (causeBytes c).length = 17 := by
  cases c <;> simp [causeBytes, zoneBytes]

@[simp] theorem probeBytes_length (p : Option ProbeResult) : (probeBytes p).length = 10 := by
  cases p <;> simp [probeBytes]

@[simp] theorem watchBytes_length (w : Watch) : (watchBytes w).length = 9 := by
  cases w <;> simp [watchBytes, zoneBytes]

theorem breakRecord_length (b : BreakMonitor) : (breakRecord b).length = 47 := by
  simp [breakRecord]

/-- The parts of the break record past its first byte. -/
theorem breakRecord_drop (b : BreakMonitor) :
    (breakRecord b).drop 1 =
      causeBytes b.cause ++ (probeBytes b.lastProbe
        ++ ([byteOf b.failedProbes] ++ le16 b.recoveryDelay ++ [byteOf (delayCode b.state)]
            ++ le32 (delayRemaining b)
          ++ (watchBytes b.watch ++ [byteOf b.runCount, bitByte b.levelCondition]))) := by
  simp [breakRecord]

theorem causeBytes_none : ∀ i < 17, i ≠ 11 ∧ i ≠ 12 → u8 (causeBytes none) i = 0 := by decide

theorem probeBytes_none : ∀ i < 10, u8 (probeBytes none) i = 0 := by decide

theorem breakRecord_cause (b : BreakMonitor) :
    match b.cause with
    | some c =>
      (∀ j, (u8 (breakRecord b) 1).testBit j = [true, c.zone.isSome, c.gradeCode.isSome].getD j false)
        ∧ u8 (breakRecord b) 2 =
            (match c.kind with
            | .gaugeLoss => 1
            | .edgeCollapse => 2
            | .input => 3)
        ∧ u8 (breakRecord b) 3 =
            (match c.origin with
            | .noOrigin => 0
            | .scan => 1
            | .point => 2)
        ∧ u32 (breakRecord b) 4 = c.scan % 4294967296
        ∧ (u32 (breakRecord b) 8 : Int) = c.position % 4294967296
        ∧ u16 (breakRecord b) 12 = c.zone.getD 0xFFFF % 65536
        ∧ u16 (breakRecord b) 14 = c.detail % 65536
        ∧ u16 (breakRecord b) 16 = c.gradeCode.getD 0 % 65536
    | none =>
      (∀ i, 1 ≤ i → i < 18 → i ≠ 12 → i ≠ 13 → u8 (breakRecord b) i = 0)
        ∧ u16 (breakRecord b) 12 = (none : Option Nat).getD 0xFFFF % 65536 := by
  have parts := breakRecord_drop b
  cases hc : b.cause with
  | none =>
    rw [hc] at parts
    refine ⟨fun i first last left right => ?_, ?_⟩
    · obtain ⟨j, rfl⟩ := Nat.exists_eq_add_of_le first
      rw [← u8_drop, parts, u8_append_left _ (by simp; omega)]
      exact causeBytes_none j (by omega) (by omega)
    · rw [show 12 = 1 + 11 from rfl, ← u16_drop, parts, u16_append_left _ (by simp)]
      rfl
  | some c =>
    simp only [breakRecord, hc, causeBytes]
    simp [-List.getD_eq_getElem?_getD, zoneBytes]
    refine ⟨fun j => testBit_bitsOf_mod (by simp) j, ?_, ?_, rfl⟩
    · cases c.kind <;> rfl
    · cases c.origin <;> rfl

theorem breakRecord_probe (b : BreakMonitor) :
    match b.lastProbe with
    | some p =>
      u8 (breakRecord b) 18 = 1 ∧ u32 (breakRecord b) 19 = p.scan % 4294967296
        ∧ u16 (breakRecord b) 23 = p.width % 65536 ∧ u16 (breakRecord b) 25 = p.minimum % 65536
        ∧ u8 (breakRecord b) 27 = (if p.sheetFound then 1 else 0)
    | none => ∀ i, 18 ≤ i → i < 28 → u8 (breakRecord b) i = 0 := by
  have parts := drop_past (breakRecord_drop b) (causeBytes_length _)
  cases hp : b.lastProbe with
  | none =>
    intro i first last
    obtain ⟨j, rfl⟩ := Nat.exists_eq_add_of_le first
    rw [hp] at parts
    rw [← u8_drop, parts, u8_append_left _ (by simp; omega)]
    exact probeBytes_none j (by omega)
  | some p =>
    simp only [breakRecord, hp, probeBytes]
    simp

theorem breakRecord_watch (b : BreakMonitor) :
    match b.watch with
    | .off =>
      u8 (breakRecord b) 36 = 0 ∧ u32 (breakRecord b) 37 = 0 % 4294967296
        ∧ u16 (breakRecord b) 41 = (none : Option Nat).getD 0xFFFF % 65536
        ∧ u16 (breakRecord b) 43 = (none : Option Nat).getD 0xFFFF % 65536
    | .point =>
      u8 (breakRecord b) 36 = 1 ∧ u32 (breakRecord b) 37 = 0 % 4294967296
        ∧ u16 (breakRecord b) 41 = (none : Option Nat).getD 0xFFFF % 65536
        ∧ u16 (breakRecord b) 43 = (none : Option Nat).getD 0xFFFF % 65536
    | .scan n region =>
      u8 (breakRecord b) 36 = 2 ∧ u32 (breakRecord b) 37 = n % 4294967296
        ∧ u16 (breakRecord b) 41 = (region.map Prod.fst).getD 0xFFFF % 65536
        ∧ u16 (breakRecord b) 43 = (region.map Prod.snd).getD 0xFFFF % 65536 := by
  cases hw : b.watch <;> simp [breakRecord, hw, watchBytes, zoneBytes, zoneCode]

/-! ## READ_LINES and READ_ALARMS (R192) -/

theorem u8_map {α : Type} {l : List α} {f : α → Byte} {i : Nat} {x : α} (h : l[i]? = some x) :
    u8 (l.map f) i = (f x).toNat := by
  simp [u8, h]

theorem linesRecord_input {s : State} {i : Nat} {l : InputLine} (h : s.plx.inputs[i]? = some l) :
    u8 (linesRecord s) i = (inputByte l).toNat := by
  have small : i < (s.plx.inputs.map inputByte).length := by
    simpa using (List.getElem?_eq_some_iff.1 h).1
  rw [linesRecord, List.append_assoc, u8_append_left _ small, u8_map h]

theorem linesRecord_output {s : State} {i : Nat} {o : OutputLine} (inputs : s.plx.inputs.length = 8)
    (h : s.plx.outputs[i]? = some o) : u8 (linesRecord s) (8 + i) = (outputByte s o).toNat := by
  have small : i < (s.plx.outputs.map (outputByte s)).length := by
    simpa using (List.getElem?_eq_some_iff.1 h).1
  rw [linesRecord, List.append_assoc, u8_append_right _ (by simp [inputs]), List.length_map, inputs,
    Nat.add_sub_cancel_left, u8_append_left _ small, u8_map h]

/-- In a list of entries of one length, an entry stands at its multiple of the length. -/
theorem flatMap_drop {α : Type} {f : α → List Byte} {n : Nat} (hf : ∀ e, (f e).length = n) {l : List α}
    {i : Nat} {e : α} (h : l[i]? = some e) :
    (l.flatMap f).drop (n * i) = f e ++ (l.drop (i + 1)).flatMap f := by
  induction l generalizing i with
  | nil => simp at h
  | cons x l ih =>
    cases i with
    | zero =>
      obtain rfl : x = e := by simpa using h
      simp
    | succ i =>
      rw [List.flatMap_cons, Nat.mul_succ, Nat.add_comm, ← List.drop_drop,
        List.drop_left' (hf x), List.drop_succ_cons]
      exact ih (by simpa using h)

theorem flatMap_length {α : Type} {f : α → List Byte} {n : Nat} (hf : ∀ e, (f e).length = n) (l : List α) :
    (l.flatMap f).length = n * l.length := by
  simp [List.length_flatMap, hf, Nat.mul_comm]

theorem alarmBytes_length (e : AlarmEntry) : (alarmBytes e).length = 11 := by simp [alarmBytes]

theorem alarmsRecord_length (l : List AlarmEntry) : (alarmsRecord l).length = 1 + 11 * l.length := by
  rw [alarmsRecord, List.length_cons, flatMap_length alarmBytes_length, Nat.add_comm]

theorem alarmsRecord_drop {l : List AlarmEntry} {i : Nat} {e : AlarmEntry} (h : l[i]? = some e) :
    (alarmsRecord l).drop (1 + 11 * i) = alarmBytes e ++ (l.drop (i + 1)).flatMap alarmBytes := by
  rw [alarmsRecord, Nat.add_comm, List.drop_succ_cons, flatMap_drop alarmBytes_length h]

/-- The fields of an alarm entry (R192). -/
theorem alarmsRecord_entry {l : List AlarmEntry} {i : Nat} {e : AlarmEntry} (h : l[i]? = some e) :
    u8 (alarmsRecord l) (1 + 11 * i) = alarmNumber e.kind % 256
      ∧ u8 (alarmsRecord l) (1 + 11 * i + 1) = bitsOf [e.active, e.acknowledged] % 256
      ∧ u32 (alarmsRecord l) (1 + 11 * i + 2) = e.firstScan % 4294967296
      ∧ u8 (alarmsRecord l) (1 + 11 * i + 6) = e.count % 256
      ∧ (u32 (alarmsRecord l) (1 + 11 * i + 7) : Int) = e.detail % 4294967296 := by
  have entry := alarmsRecord_drop h
  have first : u8 (alarmsRecord l) (1 + 11 * i) = alarmNumber e.kind % 256 := by
    rw [← Nat.add_zero (1 + 11 * i), ← u8_drop, entry]
    simp [alarmBytes]
  refine ⟨first, ?_⟩
  simp only [← u8_drop, ← u32_drop, entry, alarmBytes]
  simp

/-! ## READ_GRADE (R192) -/

theorem gradeRecordBytes_length (s : State) (slot : Nat) (g : GradeRecord) :
    (gradeRecordBytes s slot g).length = 2 + 4 * (pinScans s slot).length + (gradeBytes slot g).length := by
  simp only [gradeRecordBytes, List.length_append, flatMap_length le32_length]
  rfl

theorem gradeRecordBytes_drop (s : State) (slot : Nat) (g : GradeRecord) :
    (gradeRecordBytes s slot g).drop (2 + 4 * (s.grs.pins.filter fun p => p.slot == some slot).length) =
      gradeBytes slot g := by
  refine List.drop_left' ?_
  simp only [List.length_append, flatMap_length le32_length, pinScans, List.length_map]
  rfl

theorem gradeRecordBytes_pin {s : State} {slot : Nat} {g : GradeRecord} {i : Nat} {p : Pin}
    (h : (s.grs.pins.filter fun p => p.slot == some slot)[i]? = some p) :
    u32 (gradeRecordBytes s slot g) (2 + 4 * i) = p.scan % 4294967296 := by
  have scan : (pinScans s slot)[i]? = some p.scan := by simp [pinScans, h]
  have small : 4 * i + 3 < ((pinScans s slot).flatMap le32).length := by
    have := (List.getElem?_eq_some_iff.1 scan).1
    rw [flatMap_length le32_length]
    omega
  rw [gradeRecordBytes, List.append_assoc, u32_append_right _ (by simp), List.length_cons, List.length_singleton,
    Nat.add_sub_cancel_left, u32_append_left _ small,
    ← Nat.add_zero (4 * i), ← u32_drop, flatMap_drop le32_length scan, u32_append_left _ (by simp), u32_le32]

/-! ## READ_TREND (R193) -/

theorem trendBytes_length (e : TrendEntry) : (trendBytes e).length = 15 := by simp [trendBytes]

theorem trendRecord_length (count : Nat) (l : List TrendEntry) :
    (trendRecord count l).length = 1 + 15 * (trendReturned count l).length := by
  rw [trendRecord, List.length_cons, flatMap_length trendBytes_length, Nat.add_comm]

theorem readingCode_le (x : Reading) : readingCode x ≤ 2 := by cases x <;> simp [readingCode]

/-- The fields of a trend entry (R193). -/
theorem trendRecord_entry {count : Nat} {l : List TrendEntry} {i : Nat} {e : TrendEntry}
    (h : (trendReturned count l)[i]? = some e) :
    let o := 1 + 15 * i
    let r := trendRecord count l
    u32 r o = e.sequence % 4294967296 ∧ u16 r (o + 4) = readingValue e.readings.bw % 65536
      ∧ u16 r (o + 6) = readingValue e.readings.moi % 65536
      ∧ u16 r (o + 8) = readingValue e.readings.cal % 65536
      ∧ u16 r (o + 10) = readingValue e.readings.dry % 65536
      ∧ u8 r (o + 12) = trendStatuses e.readings ∧ u8 r (o + 13) = trendFlags e.flags % 256
      ∧ u8 r (o + 14) =
          bitsOf [readingClamped e.readings.bw, readingClamped e.readings.moi
            , readingClamped e.readings.cal, readingClamped e.readings.dry] % 256 := by
  intro o r
  have entry : r.drop o = trendBytes e ++ ((trendReturned count l).drop (i + 1)).flatMap trendBytes := by
    rw [show o = 15 * i + 1 from Nat.add_comm _ _]
    exact flatMap_drop trendBytes_length h
  have first : u32 r o = e.sequence % 4294967296 := by
    rw [← Nat.add_zero o, ← u32_drop, entry]
    simp [trendBytes]
  have small : trendStatuses e.readings < 256 := by
    have bw := readingCode_le e.readings.bw
    have moi := readingCode_le e.readings.moi
    have cal := readingCode_le e.readings.cal
    have dry := readingCode_le e.readings.dry
    unfold trendStatuses
    omega
  refine ⟨first, ?_⟩
  simp only [← u8_drop, ← u16_drop, entry, trendBytes]
  simp [Nat.mod_eq_of_lt small]

/-! ## READ_PROFILE (R192) -/

theorem zoneRecord_length (set : ProfileSet) (ch : Channel) (z : ProfileZone) :
    (zoneRecord set ch z).length = 4 := by simp [zoneRecord]

theorem profileRecord_length (s : State) (ch : Channel) (c : Nat) (set : ProfileSet) (d first count : Nat) :
    (profileRecord s ch c set d first count).length =
      9 + 4 * ((s.pfb.published.drop first).take count).length := by
  simp only [profileRecord, List.length_append, flatMap_length (zoneRecord_length set ch), le32_length,
    le16_length]
  rfl

theorem profileRecord_header (s : State) (ch : Channel) (c : Nat) (set : ProfileSet) (d first count : Nat) :
    let r := profileRecord s ch c set d first count
    u32 r 0 = s.pfb.publishedScan % 4294967296 ∧ u8 r 4 = c % 256 ∧ u8 r 5 = d % 256 ∧ u16 r 6 = first % 65536
      ∧ u8 r 8 = ((s.pfb.published.drop first).take count).length % 256 := by
  simp [profileRecord]

/-- The fields of a zone in the profile record (R192). -/
theorem profileRecord_zone {s : State} {ch : Channel} {c : Nat} {set : ProfileSet} {d first count i : Nat}
    {z : ProfileZone} (h : ((s.pfb.published.drop first).take count)[i]? = some z) :
    let fields := cellFields set (z.cells.get ch)
    u16 (profileRecord s ch c set d first count) (9 + 4 * i) = fields.1 % 65536
      ∧ u8 (profileRecord s ch c set d first count) (9 + 4 * i + 2) =
          (fields.2.1 + if z.onSheet then 128 else 0) % 256
      ∧ u8 (profileRecord s ch c set d first count) (9 + 4 * i + 3) = fields.2.2 % 256 := by
  intro fields
  have entry : (profileRecord s ch c set d first count).drop (9 + 4 * i) =
      zoneRecord set ch z ++ (((s.pfb.published.drop first).take count).drop (i + 1)).flatMap (zoneRecord set ch) := by
    rw [← List.drop_drop, ← flatMap_drop (zoneRecord_length set ch) h]
    rfl
  have value : u16 (profileRecord s ch c set d first count) (9 + 4 * i) = fields.1 % 65536 := by
    rw [← Nat.add_zero (9 + 4 * i), ← u16_drop, entry]
    simp [zoneRecord, fields]
  refine ⟨value, ?_⟩
  simp only [← u8_drop, entry, zoneRecord]
  simp [fields]

/-- Settles O11: each record is its fields in the order of its layout. -/
theorem recordLengths : Obligations.RecordLengths := by
  unfold Obligations.RecordLengths
  intro byte half word signed bits zone kinds broken machine
  refine ⟨fun s => ?_, fun s => ?_, fun x => ?_, fun u => ?_, fun b => ?_, fun s inputs outputs => ?_, fun l => ?_,
    fun s slot g => ?_, fun count l => ?_, fun s ch c set d first count => ?_⟩
  · simp [identifyRecord]
  · intro r
    refine ⟨statusRecord_length s, ?_⟩
    simp only [byte, half, word, signed, bits, r, statusRecord, statusTraverse, statusRest, countdownBytes]
    simp [-List.getD_eq_getElem?_getD]
    refine ⟨?_, ?_, ?_, ?_, ?_, ?_, ?_, ?_, ?_, ?_, ?_, ?_, ?_, ?_, ?_⟩
    · cases s.trc.state <;> rfl
    · intro j
      rw [traverseFlags_eq, testBit_bitsOf_mod (by simp [stateFlags_length])]
      rfl
    · cases s.trc.state with
      | transit _ following => cases following <;> rfl
      | _ => rfl
    · cases s.trc.state with
      | homing step => cases step <;> rfl
      | _ => rfl
    · cases s.trc.state with
      | faulted kind => cases kind <;> rfl
      | _ => rfl
    · exact congrArg (· % 4294967296) (targetField_eq s)
    · exact congrArg (· % 65536) (periodField_eq s.trc.state)
    · rfl
    · rfl
    · rw [accHeldCount_eq]
      exact Nat.mod_eq_of_lt (Nat.lt_of_le_of_lt List.countP_le_length (by decide))
    · exact fun j => testBit_bitsOf_mod (by simp) j
    · exact Nat.mod_eq_of_lt (machineRunCode_lt _)
    · rfl
    · cases s.bkm.state <;> rfl
    · cases s.slp.resetCause <;> rfl
  · intro r block
    refine ⟨by simp [r, summaryRecord, zoneBytes], ?_⟩
    simp only [byte, half, word, bits, zone, r, summaryRecord]
    simp [-List.getD_eq_getElem?_getD, zoneBytes]
    refine ⟨?_, ?_, ?_, ?_, ?_, ?_, summaryRecord_channels x⟩
    · cases x.direction <;> rfl
    · rfl
    · exact fun j => testBit_bitsOf_mod (by simp) j
    · rfl
    · rfl
    · exact kindBits_testBit x.kinds
  · intro r block
    refine ⟨by simp [r, standardizeRecord, stdSettingsBytes, countdownBytes], ?_⟩
    simp only [byte, half, word, r, standardizeRecord, stdSettingsBytes, countdownBytes]
    simp [-List.getD_eq_getElem?_getD]
    obtain ⟨bw, moi, cal⟩ := standardizeRecord_channels u
    refine ⟨bw, moi, cal, rfl, ?_⟩
    cases u.dwell.map DwellRecord.step with
    | none => rfl
    | some step => cases step <;> rfl
  · intro r
    refine ⟨breakRecord_length b, ?_, breakRecord_cause b, breakRecord_probe b, ?_, ?_, ?_, ?_,
      breakRecord_watch b, ?_, ?_⟩ <;> simp only [byte, half, word, broken, r, breakRecord] <;> simp
    · cases b.state <;> rfl
    · rcases b.state with _ | _ | (_ | _ | _) | _ <;> rfl
    · rw [delayRemaining, Nat.mul_comm]
      rcases b.state with _ | _ | (_ | _ | _) | _ <;> rfl
  · intro r
    refine ⟨by simp [r, linesRecord, inputs, outputs], fun i l h => ?_, fun i o h => ?_, ?_⟩
    · rw [linesRecord_input h, inputByte, toNat_byteOf]
      rcases lineState l with _ | _ | _ <;> cases l.change <;> rfl
    · intro j
      rw [linesRecord_output inputs h]
      exact testBit_bitsOf_mod (by simp) j
    · simp [r, linesRecord, inputs, outputs]
      exact Nat.mod_eq_of_lt (machineRunCode_lt _)
  · intro r
    refine ⟨alarmsRecord_length l, by simp [byte, r, alarmsRecord], fun i e h => ?_⟩
    intro o
    obtain ⟨number, flags, rest⟩ := alarmsRecord_entry h
    refine ⟨?_, ?_, fun j => ?_, rest⟩
    · rw [number]
      cases e.kind <;> decide
    · rw [number]
      cases e.kind <;> rfl
    · rw [flags, testBit_bitsOf_mod (by simp)]
  · intro r pins
    refine ⟨?_, fun j => testBit_bitsOf_mod (by simp) j, ?_, fun i p h => gradeRecordBytes_pin h,
      gradeRecordBytes_drop s slot g⟩
    · simp [r, gradeRecordBytes_length, pinScans, pins]
    · simp [byte, r, gradeRecordBytes, pinScans, pins]
  · intro r k
    have returned : (trendReturned count l).length = k := by
      simp [trendReturned, Config.trendReplyLimit, k]
    refine ⟨?_, ?_, fun i e small h => ?_⟩
    · rw [← returned]
      exact trendRecord_length _ l
    · rw [← returned]
      exact Nat.mod_eq_of_lt (by omega)
    · intro o value status clamped x f
      have entry : (trendReturned count l)[i]? = some e := by
        have last : i < l.length := by omega
        rw [trendReturned, List.getElem?_take, if_pos (by simp [Config.trendReplyLimit]; omega),
          List.getElem?_reverse last, h]
      obtain ⟨sequence, bw, moi, cal, dry, statuses, flags, clamps⟩ := trendRecord_entry entry
      have values : ∀ y, readingValue y = value y := fun y => by cases y <;> rfl
      have codes : ∀ y, readingCode y = status y := fun y => by cases y <;> rfl
      have clamp : ∀ y, readingClamped y = clamped y := fun y => by cases y <;> rfl
      simp only [values] at bw moi cal dry
      simp only [clamp] at clamps
      refine ⟨sequence, bw, moi, cal, dry, statuses.trans ?_, fun j => ?_, fun j => ?_⟩
      · simp only [trendStatuses, codes, x]
      · rw [flags]
        exact testBit_bitsOf_mod (by simp) j
      · rw [clamps]
        exact testBit_bitsOf_mod (by simp) j
  · intro r m
    have zones : ((s.pfb.published.drop first).take count).length = m := by simp [m]
    obtain ⟨scan, channel, setCode, start, number⟩ := profileRecord_header s ch c set d first count
    rw [zones] at number
    refine ⟨?_, scan, channel, setCode, start, number, fun i z small h => ?_⟩
    · rw [← zones]
      exact profileRecord_length s ch c set d first count
    · intro o cell shown
      have entry : ((s.pfb.published.drop first).take count)[i]? = some z := by
        rw [List.getElem?_take, if_pos (by omega), List.getElem?_drop, h]
      have fits : ∀ code ≤ 3, (code + if z.onSheet then 128 else 0) % 256 = code + if z.onSheet then 128 else 0 := by
        intro code hcode
        split <;> omega
      obtain ⟨value, code, age⟩ :=
        profileRecord_zone (s := s) (ch := ch) (c := c) (set := set) (d := d) entry
      cases set with
      | filtered =>
        cases hf : (z.cells.get ch).filtered <;> simp only [cellFields, hf] at value code age <;>
          exact ⟨value, code.trans (fits _ (by decide)), age⟩
      | last =>
        cases hl : (z.cells.get ch).last <;> simp only [cellFields, hl, lastCode] at value code age <;>
          exact ⟨value, code.trans (fits _ (by decide)), age⟩

end Sys2Proof.Machine
end

section
/-! PROOFS. The receiver of the link (09, 9.2): the check value, one character, and the characters of a whole frame. -/

namespace Sys2Proof.Machine

variable {s : State}

/-! ## The check value (R176) -/

theorem crcBit_eq (incoming : Bool) (register : BitVec 16) :
    crcBit incoming register =
      if register.getLsbD 15 = incoming then register <<< 1 else (register <<< 1) ^^^ 0x1021 := by
  rw [crcBit, BitVec.msb_eq_getLsbD_last]
  cases register.getLsbD 15 <;> cases incoming <;> rfl

theorem crc16_concat (covered : List Byte) (b : Byte) :
    crc16 (covered ++ [b]) = crcByte (crc16 covered) b := by
  simp [crc16]

/-! ## One character (R177) -/

theorem huntCharacter_eq (b : Byte) (bad : Bool) (s : State) :
    huntCharacter b bad s =
      setReceiver (if bad = false ∧ b = 0xC3 then .inFrame [] else .hunting) s := by
  simp [huntCharacter, Config.sync]

theorem characterReceived_hunting (b : Byte) (bad : Bool) (gap : Nat) (h : s.slp.receiver = .hunting) :
    characterReceived b bad gap s = huntCharacter b bad s := by
  simp [characterReceived, h]

theorem characterReceived_late {old : List Byte} (b : Byte) (bad : Bool) {gap : Nat}
    (h : s.slp.receiver = .inFrame old) (late : 1000 < gap) :
    characterReceived b bad gap s = huntCharacter b bad s := by
  simp [characterReceived, h, Config.interByteGapUs, late]

theorem characterReceived_bad {old : List Byte} (b : Byte) {gap : Nat}
    (h : s.slp.receiver = .inFrame old) (early : gap ≤ 1000) :
    characterReceived b true gap s = setReceiver .hunting s := by
  simp [characterReceived, h, Config.interByteGapUs, Nat.not_lt.2 early]

theorem characterReceived_good {old : List Byte} (b : Byte) {gap : Nat}
    (h : s.slp.receiver = .inFrame old) (early : gap ≤ 1000) :
    characterReceived b false gap s = appendCharacter (old ++ [b]) s := by
  simp [characterReceived, h, Config.interByteGapUs, Nat.not_lt.2 early]

theorem exec_characterReceived (b : Byte) (bad : Bool) (gap : Nat) (s : State) :
    exec (.characterReceived b bad gap) s = .next (characterReceived b bad gap s) := rfl

/-! ## The progress of a frame -/

theorem appendCharacter_header {buffer : List Byte} (h : buffer.length < 5) :
    appendCharacter buffer s = setReceiver (.inFrame buffer) s := by
  simp [appendCharacter, frameProgress, h]

theorem appendCharacter_oversized {buffer : List Byte} (h : 5 ≤ buffer.length)
    (long : 512 < lengthField buffer) : appendCharacter buffer s = setReceiver .hunting s := by
  simp [appendCharacter, frameProgress, Nat.not_lt.2 h, Config.maxBody, long]

theorem appendCharacter_body {buffer : List Byte} (h : 5 ≤ buffer.length) (fits : lengthField buffer ≤ 512)
    (short : buffer.length < lengthField buffer + 7) :
    appendCharacter buffer s = setReceiver (.inFrame buffer) s := by
  simp [appendCharacter, frameProgress, Nat.not_lt.2 h, Config.maxBody, Nat.not_lt.2 fits, short]

theorem appendCharacter_complete {buffer : List Byte} (h : buffer.length = lengthField buffer + 7)
    (fits : lengthField buffer ≤ 512) :
    appendCharacter buffer s =
      if crcMatches buffer then acceptFrame (u8 buffer 1) (frameOf buffer) (setReceiver .hunting s)
      else setReceiver .hunting s := by
  have complete : frameProgress buffer = .complete := by
    simp [frameProgress, Config.maxBody, Nat.not_lt.2 fits, h]
  simp only [appendCharacter, complete]

/-- Settles O9: the register bit by bit, and the receiver by its state, the gap and the framing, then by the progress of the buffer. -/
theorem receiverStates : Obligations.ReceiverStates := by
  refine ⟨⟨rfl, fun covered b => ?_, by decide +kernel⟩, fun b bad gap old s => ?_⟩
  · intro shifted
    rw [crc16_concat, crcByte]
    simp only [crcBit_eq]
    rfl
  · intro hunt dropped buffer length kept sent
    refine ⟨rfl, fun h => ?_, fun h late => ?_, fun h early hbad => ?_, fun h early hgood => ?_⟩
    · rw [exec_characterReceived, characterReceived_hunting b bad gap h, huntCharacter_eq]
      rfl
    · rw [exec_characterReceived, characterReceived_late b bad h late, huntCharacter_eq]
      rfl
    · rw [hbad, exec_characterReceived, characterReceived_bad b h early]
      rfl
    · rw [hgood, exec_characterReceived, characterReceived_good b h early]
      have covers : lengthField buffer = length := rfl
      refine ⟨fun header => ?_, fun past long => ?_, fun past fits short => ?_, fun complete fits => ?_⟩
      · rw [appendCharacter_header header]
        rfl
      · rw [appendCharacter_oversized past long]
        rfl
      · rw [appendCharacter_body past fits short]
        rfl
      · rw [appendCharacter_complete complete fits]
        have check : crcMatches buffer = ((crc16 (buffer.take (length + 5))).toNat == sent) := by
          simp [crcMatches, covers, Nat.add_comm 5, sent, u16, u8]
        refine ⟨fun differs => ?_, fun agrees => ?_⟩
        · rw [check, if_neg (by simpa using differs)]
          rfl
        · rw [check, if_pos (by simpa using agrees)]
          rfl

/-! ## The characters of a whole frame (R176, R177) -/

/-- The bytes of a frame after its sync byte. -/
def frameRest (kind : Byte) (f : Frame) : List Byte :=
  coveredBytes f.address kind.toNat f.tag f.body ++ crcBytes (coveredBytes f.address kind.toNat f.tag f.body)

theorem frameBytes_eq (kind : Byte) (f : Frame) :
    frameBytes f.address kind.toNat f.tag f.body = 0xC3 :: frameRest kind f := rfl

theorem coveredBytes_length (kind : Byte) (f : Frame) :
    (coveredBytes f.address kind.toNat f.tag f.body).length = 5 + f.body.length := by
  simp [coveredBytes]
  omega

theorem frameRest_length (kind : Byte) (f : Frame) : (frameRest kind f).length = f.body.length + 7 := by
  rw [frameRest, List.length_append, coveredBytes_length, crcBytes, le16_length]
  omega

theorem lengthField_frameRest {kind : Byte} {f : Frame} (h : f.body.length ≤ 512) :
    lengthField (frameRest kind f) = f.body.length := by
  simp [lengthField, frameRest, coveredBytes]
  omega

/-- The length field of the frame stands in its first five bytes. -/
theorem lengthField_of_part {kind : Byte} {f : Frame} {buffer rest : List Byte} (h : f.body.length ≤ 512)
    (whole : buffer ++ rest = frameRest kind f) (header : 5 ≤ buffer.length) :
    lengthField buffer = f.body.length := by
  rw [← lengthField_frameRest h, ← whole, lengthField, lengthField, u16_append_left _ (by omega)]

theorem frameOf_frameRest {kind : Byte} {f : Frame} (h : f.body.length ≤ 512) :
    frameOf (frameRest kind f) = f := by
  rw [frameOf, lengthField_frameRest h]
  cases f
  simp [frameRest, coveredBytes, le16]

theorem kind_frameRest (kind : Byte) (f : Frame) : u8 (frameRest kind f) 1 = kind.toNat := by
  simp [frameRest, coveredBytes]
  omega

theorem crcMatches_frameRest {kind : Byte} {f : Frame} (h : f.body.length ≤ 512) :
    crcMatches (frameRest kind f) = true := by
  rw [crcMatches, lengthField_frameRest h, frameRest, ← coveredBytes_length kind f, List.take_left,
    u16_append_right _ (Nat.le_refl _), Nat.sub_self, crcBytes, u16_le16, beq_iff_eq,
    Nat.mod_eq_of_lt (BitVec.isLt _)]

/-- An unfinished part of a good frame is kept. -/
theorem appendCharacter_part {kind : Byte} {f : Frame} {buffer rest : List Byte} (h : f.body.length ≤ 512)
    (whole : buffer ++ rest = frameRest kind f) (more : rest ≠ []) (s : State) :
    appendCharacter buffer s = setReceiver (.inFrame buffer) s := by
  rcases Nat.lt_or_ge buffer.length 5 with header | past
  · exact appendCharacter_header header
  · have field := lengthField_of_part h whole past
    have total : buffer.length + rest.length = f.body.length + 7 := by
      rw [← List.length_append, whole, frameRest_length]
    have := List.length_pos_iff.2 more
    exact appendCharacter_body past (by omega) (by omega)

/-- The last character of a good frame hands it on. -/
theorem appendCharacter_frameRest {kind : Byte} {f : Frame} (h : f.body.length ≤ 512) (s : State) :
    appendCharacter (frameRest kind f) s = acceptFrame kind.toNat f (setReceiver .hunting s) := by
  have field := lengthField_frameRest (kind := kind) h
  rw [appendCharacter_complete (by rw [field, frameRest_length]) (by omega), crcMatches_frameRest h, if_pos rfl,
    kind_frameRest, frameOf_frameRest h]

/-- The characters of a good frame. -/
def characters (chars : List (Byte × Nat)) : List Instr := chars.map fun c => .characterReceived c.1 false c.2

theorem runAll_next {c : Instr} {rest : List Instr} {t : State} (h : exec c s = .next t) :
    runAll (c :: rest) s = runAll rest t := by
  rw [runAll, h]

/-- From the middle of a good frame, the rest of its characters hand it on. -/
theorem runAll_rest {kind : Byte} {f : Frame} (h : f.body.length ≤ 512) (chars : List (Byte × Nat))
    (gaps : ∀ c ∈ chars, c.2 ≤ 1000) (buffer : List Byte) (more : chars ≠ [])
    (whole : buffer ++ chars.map Prod.fst = frameRest kind f) (s : State) :
    runAll (characters chars) (setReceiver (.inFrame buffer) s) =
      .next (acceptFrame kind.toNat f (setReceiver .hunting s)) := by
  induction chars generalizing buffer with
  | nil => exact absurd rfl more
  | cons c rest ih =>
    have early := gaps c (List.mem_cons_self ..)
    have taken : exec (.characterReceived c.1 false c.2) (setReceiver (.inFrame buffer) s) =
        .next (appendCharacter (buffer ++ [c.1]) (setReceiver (.inFrame buffer) s)) :=
      congrArg _ (characterReceived_good c.1 rfl early)
    have shifted : (buffer ++ [c.1]) ++ rest.map Prod.fst = frameRest kind f := by
      rw [← whole, List.map_cons, List.append_assoc, List.singleton_append]
    rw [characters, List.map_cons, runAll_next taken]
    cases rest with
    | nil =>
      rw [List.map_nil, List.append_nil] at shifted
      rw [shifted, appendCharacter_frameRest h]
      rfl
    | cons d rest =>
      rw [appendCharacter_part h shifted (by simp)]
      exact ih (fun e he => gaps e (List.mem_cons_of_mem _ he)) _ (by simp) shifted

theorem setReceiver_self (h : s.slp.receiver = .hunting) : setReceiver .hunting s = s := by
  unfold setReceiver State.modSlp
  rw [← h]

/-- Settles O8: the sync byte opens the frame, and by induction over the rest of its characters the frame is handed on. -/
theorem receiverTakesGoodFrame : Obligations.ReceiverTakesGoodFrame := by
  refine ⟨fun address tag kind body => rfl, fun kind f chars s hunting fits spelt gaps => ?_⟩
  have handed : runAll (characters chars) s = .next (acceptFrame kind.toNat f s) := by
    rw [frameBytes_eq] at spelt
    cases chars with
    | nil => simp at spelt
    | cons c rest =>
      obtain ⟨sync, whole⟩ := List.cons.inj spelt
      have more : rest ≠ [] := by
        rintro rfl
        have := frameRest_length kind f
        rw [← whole] at this
        simp at this
      have opened : exec (.characterReceived c.1 false c.2) s = .next (setReceiver (.inFrame []) s) := by
        rw [exec_characterReceived, characterReceived_hunting _ _ _ hunting, huntCharacter_eq, if_pos ⟨rfl, sync⟩]
      rw [characters, List.map_cons, runAll_next opened]
      exact (runAll_rest fits rest (fun e he => gaps e (List.mem_cons_of_mem _ he)) [] more whole s).trans
        (by rw [setReceiver_self hunting])
  refine ⟨handed, fun k hk => ?_⟩
  rw [exec_requestOf, hk]
  exact handed

end Sys2Proof.Machine
end

section
/-! PROOFS. The requests of the traverse, the geometry and the reads: SCAN, POINT, SET_GEOMETRY, CLEAR_PROFILES, READ_GRADE, READ_PROFILE, READ_TREND and READ_BREAK. -/

namespace Sys2Proof.Machine

variable {s : State}

/-! ## SCAN (R16) -/

/-- R16: an accepted SCAN clears the dwell hold and, without an air rate, wants a standardize. -/
theorem wantIfNoAir_clearHold (s : State) :
    wantIfNoAir (clearHold s) =
      { s with
        trc := { s.trc with dwellHold := false }
        sdu := { s.sdu with wanted := s.sdu.wanted || s.sdu.refs.r0 == 0 } } := by
  unfold wantIfNoAir
  cases h : s.sdu.refs.r0 == 0 with
  | true => simp [clearHold, h, setWanted, State.modSdu, State.modTrc]
  | false => simp [clearHold, h, State.modTrc]

theorem readProbeNow_singleton (flags : Byte) :
    readProbeNow [flags] = if 1 < flags.toNat then none else some (flags.toNat == 1) := by
  rcases Nat.lt_or_ge 1 flags.toNat with h | h
  · simp [readProbeNow, h, Nat.not_le.2 h]
  · simp [readProbeNow, h, Nat.not_lt.2 h]

theorem scanNotReady_iff (s : State) :
    scanNotReady s = true ↔
      s.trc.homed = false ∨ s.gtu.geometry = none ∨ (s.grs.active = none ∧ s.grs.staged = none) := by
  simp [scanNotReady, or_assoc]

/-- R123: with the interlock satisfied, out of PROBING and without the hold, a dwell is ready when one is wanted and no reset is pending. -/
theorem dwellReady_iff (s : State) :
    dwellReady s = true ↔
      s.sdu.wanted = true ∧ s.bkm.state ≠ .probing ∧ s.plx.interlock = true ∧ s.trc.dwellHold = false
        ∧ s.slp.resetPending = false := by
  simp [dwellReady, and_assoc]

/-- Settles O13: the checks in their order, then by break state and traverse state. -/
theorem scanRequest : Obligations.ScanRequest := by
  intro f flags s addressed hb t h
  refine (exec_of_addressed .scan addressed (by simp [bodyFits, hb])).trans (congrArg _ ?_)
  have held : wantIfNoAir (clearHold t) = h := wantIfNoAir_clearHold t
  rw [answerTo, answerScan, hb, readProbeNow_singleton]
  rcases Nat.lt_or_ge 1 flags.toNat with beyond | le
  · rw [if_pos beyond, if_pos beyond]
    rfl
  rw [if_neg (Nat.not_lt.2 le), if_neg (Nat.not_lt.2 le)]
  simp only [apply_ite (Answer.reply .scan f), reply_refuse, scanNotReady_iff, Bool.not_eq_true']
  refine if_congr Iff.rfl rfl (if_congr Iff.rfl rfl (if_ctx_congr Iff.rfl (fun _ => rfl) fun satisfied => ?_))
  rw [Bool.not_eq_false] at satisfied
  unfold scanInBreak
  simp only [frameTaken_frame]
  cases hb : s.bkm.state with
  | broken => rfl
  | probing => rfl
  | waiting delay =>
    cases now : flags.toNat == 1 with
    | true =>
      rw [if_pos (beq_iff_eq.1 now)]
      rfl
    | false =>
      rw [if_neg (beq_eq_false_iff_ne.1 now)]
      rfl
  | clear =>
    have ready : dwellReady h = true ↔ h.sdu.wanted ∧ s.slp.resetPending = false := by
      rw [dwellReady_iff]
      exact ⟨fun ⟨wanted, _, _, _, reset⟩ => ⟨wanted, reset⟩,
        fun ⟨wanted, reset⟩ => ⟨wanted, by simp [h, t, hb], satisfied, rfl, reset⟩⟩
    rw [show frameTaken s = t from rfl]
    unfold scanByState
    dsimp only
    rw [held, show t.trc.state = s.trc.state from rfl]
    cases s.trc.state with
    | parked => exact congrArg (fun u => replied 0x11 f .accepted [] (motionTests u)) (if_congr ready rfl rfl)
    | transit target _ => cases target <;> rfl
    | _ => rfl

/-! ## POINT (R21) -/

theorem pointInRange_eq_false_iff (s : State) (position period : Nat) :
    pointInRange s position period = false ↔
      (∀ g, s.gtu.geometry = some g → position < g.W0 ∨ g.W1 < position) ∨ period < 10 ∨ 1000 < period := by
  cases h : s.gtu.geometry <;> simp [pointInRange, h, Geometry.inWindow]
  omega

/-- Settles O16: the checks in their order, then by traverse state. -/
theorem pointRequest : Obligations.PointRequest := by
  intro f s h hb t position period
  refine (exec_of_addressed .point h (by simp [bodyFits, hb])).trans (congrArg _ ?_)
  have range := pointInRange_eq_false_iff t position period
  simp only [answerTo, answerPoint, apply_ite (Answer.reply .point f), reply_refuse, Bool.not_eq_true',
    Bool.or_eq_true, Option.isNone_iff_eq_none, bne_iff_ne]
  refine if_congr range rfl (if_ctx_congr Iff.rfl (fun _ => rfl) fun idle => if_congr Iff.rfl rfl
    (if_congr Iff.rfl rfl (if_congr Iff.rfl rfl ?_)))
  obtain ⟨sound, out⟩ := not_or.1 idle
  unfold pointByState
  rw [frameTaken_trc]
  cases hs : s.trc.state with
  | faulted kind => exact absurd (by rw [hs]; rfl) sound
  | scanning _ _ _ _ => exact absurd (by rw [hs]; rfl) out
  | _ => rfl

/-! ## READ_GRADE, READ_PROFILE, READ_TREND and READ_BREAK -/

/-- R108: READ_PROFILE: its codes, its count, the geometry and the first zone. -/
theorem readProfile_reply {f : Frame} {ch set first0 first1 count : Byte}
    (hb : f.body = [ch, set, first0, first1, count]) (s : State) :
    (answerTo .readProfile f.body s).reply .readProfile f =
      match channelOf ch.toNat, profileSetOf set.toNat, s.gtu.geometry with
      | some c, some p, some g =>
        if count.toNat = 0 ∨ 120 < count.toNat ∨ g.Z ≤ first0.toNat + 256 * first1.toNat then
          replied 0x31 f .range [] s
        else
          replied 0x31 f .done
            (profileRecord s c ch.toNat p set.toNat (first0.toNat + 256 * first1.toNat)
              (min count.toNat (g.Z - (first0.toNat + 256 * first1.toNat)))) s
      | some _, some _, none =>
        if count.toNat = 0 ∨ 120 < count.toNat then replied 0x31 f .range [] s
        else replied 0x31 f .notReady [] s
      | _, _, _ => replied 0x31 f .range [] s := by
  have counted : (1 ≤ count.toNat ∧ count.toNat ≤ 120) ↔ ¬ (count.toNat = 0 ∨ 120 < count.toNat) := by omega
  simp only [answerTo, answerReadProfile, hb, u8_cons_zero, u8_cons_succ]
  cases channelOf ch.toNat with
  | none => rfl
  | some c =>
    cases profileSetOf set.toNat with
    | none => rfl
    | some p =>
      simp only [Bool.and_eq_true, decide_eq_true_eq, counted, ite_not, readProfileOf]
      cases s.gtu.geometry with
      | none => exact (apply_ite _ _ _ _).trans rfl
      | some g =>
        simp only [← or_assoc]
        by_cases bad : count.toNat = 0 ∨ 120 < count.toNat
        · rw [if_pos bad, if_pos (Or.inl bad)]
          rfl
        · rw [if_neg bad]
          exact (apply_ite _ _ _ _).trans (if_congr (by simp [bad, u16]) rfl rfl)

/-- Settles O20: the codes by their tables, and the owners' answers under the reply to an addressed request. -/
theorem readsThatChangeNothing : Obligations.ReadsThatChangeNothing := by
  refine ⟨⟨fun n c => ?_, fun n p => ?_, fun s n slot => ⟨rfl, rfl, rfl⟩⟩, fun f s h => ?_⟩
  · unfold channelOf
    split <;> cases c <;> simp_all
  · unfold profileSetOf
    split <;> cases p <;> simp_all
  · intro t
    refine ⟨fun slot hb => ?_, fun ch set first0 first1 count hb => ?_, fun count hb => ?_, fun hb => ?_⟩
    · refine (exec_of_addressed .readGrade h (by simp [bodyFits, hb])).trans (congrArg _ ?_)
      simp only [answerTo, answerReadGrade, hb, u8_cons_zero, apply_ite (Answer.reply .readGrade f), reply_refuse]
      refine if_congr Nat.lt_iff_add_one_le.symm rfl ?_
      rw [show gradeIn (frameTaken s) _ = gradeIn s _ from rfl]
      cases gradeIn s slot.toNat <;> rfl
    · refine (exec_of_addressed .readProfile h (by simp [bodyFits, hb])).trans (congrArg _ ?_)
      exact readProfile_reply hb t
    · refine (exec_of_addressed .readTrend h (by simp [bodyFits, hb])).trans (congrArg _ ?_)
      simp only [answerTo, answerReadTrend, hb, u8_cons_zero, apply_ite (Answer.reply .readTrend f), reply_refuse,
        reply_plain, reply_answered, Bool.or_eq_true, beq_iff_eq, decide_eq_true_eq, List.isEmpty_iff]
      rfl
    · exact exec_of_addressed .readBreak h (by simp [bodyFits, hb])

/-! ## SET_GEOMETRY and CLEAR_PROFILES (R31, R32, R103, R109) -/

theorem geometry_inRange_iff (g : Geometry) :
    g.inRange = true ↔
      (20000 ≤ g.L ∧ g.L ≤ 130000) ∧ (300 ≤ g.P ∧ g.P ≤ g.L) ∧ (g.W0 < g.W1 ∧ g.W1 ≤ g.L)
        ∧ (400 ≤ g.U ∧ g.U ≤ 10000) ∧ (8 ≤ g.Z ∧ g.Z ≤ 600) ∧ (1 ≤ g.S ∧ g.S ≤ 8)
        ∧ g.P + 200 + g.U / 2 ≤ g.W0 ∧ g.W1 + g.U / 2 + 300 ≤ g.L
        ∧ g.Z * g.S ≤ 2400 ∧ 20 * (g.Z * g.S) ≤ g.W1 - g.W0 := by
  simp only [Geometry.inRange, Bool.and_eq_true, decide_eq_true_eq]
  simp only [Geometry.e0, Geometry.e1, Geometry.ramp, Geometry.slotCount]
  omega

theorem setReseed_of_none (m : Mark) (h : s.pfb.reseed = none) :
    setReseed m s = { s with pfb := { s.pfb with reseed := some { mark := m, later := none } } } := by
  simp [setReseed, State.modPfb, h]

theorem setReseed_of_some (m : Mark) {r : Reseed} (h : s.pfb.reseed = some r) :
    setReseed m s =
      { s with
        pfb :=
          { s.pfb with
            reseed := some { mark := r.mark, later := if r.mark.order < m.order then some m else r.later } } } := by
  simp only [setReseed, State.modPfb, h]
  split <;> rfl

/-- R32: every held scan goes with its pin, and everything computed against the old cut. -/
theorem replaceGeometry_eq (g : Geometry) (v : State) :
    replaceGeometry g v =
      { v with
        gtu := { v.gtu with geometry := some g, queue := [], held := none }
        cve := (stalePointJob v).cve
        grs :=
          { v.grs with
            pins := v.grs.pins.filter fun p => !(v.pfb.contexts.map ScanContext.number).contains p.scan }
        pfb :=
          { v.pfb with
            contexts := [], pass := none
            acc0 := List.replicate (g.Z * g.S) .cleared, acc1 := List.replicate (g.Z * g.S) .cleared
            working := List.replicate g.Z .emptied, published := List.replicate g.Z .emptied
            publishedScan := 0, publishedEdges := none, summaries := [], trend := []
            reseed := (setReseed (nextMark v) v).pfb.reseed }
        bkm := { v.bkm with watch := .off, runCount := 0 } } := by
  have none_left : (v.pfb.contexts.filter fun c =>
      !(v.pfb.contexts.map ScanContext.number).contains c.number) = [] := by
    rw [List.filter_eq_nil_iff]
    intro c hc
    simpa using ⟨c, hc, rfl⟩
  rw [← none_left]
  rfl

theorem leaveOldPark_eq (g : Geometry) (s : State) :
    leaveOldPark g s =
      if s.trc.state = .parked ∧ s.gtu.geometry.map Geometry.P ≠ some g.P then moveTo .stopped s else s := by
  simp [leaveOldPark]

/-- R109: the scans in a pass or waiting for one go with their pins, and both profile sets are emptied. -/
theorem clearProfiles_eq (s : State) :
    let gone := (s.pfb.contexts.filter fun c => c.stage == .inPass || c.stage == .complete).map ScanContext.number
    let left := s.pfb.contexts.filter fun c => !gone.contains c.number
    let Z := (s.gtu.geometry.map Geometry.Z).getD 0
    let mark : Mark :=
      match left with
      | c :: _ => { scan := c.number, order := c.order }
      | [] => nextMark s
    clearProfiles s =
      { s with
        grs := { s.grs with pins := s.grs.pins.filter fun p => !gone.contains p.scan }
        pfb :=
          { s.pfb with
            contexts := left, pass := none
            working := List.replicate Z .emptied, published := List.replicate Z .emptied
            publishedScan := 0, publishedEdges := none
            reseed := (setReseed mark s).pfb.reseed }
        bkm := { s.bkm with watch := .off, runCount := 0 } } := by
  intro gone left Z mark
  have oldest : oldestMark ((removeScans (clearedScans s) s).modPfb (emptySets Z)) = mark := by
    simp only [oldestMark, mark]
    change (match left.head? with
      | some c => _
      | none => _) = _
    cases left <;> rfl
  unfold clearProfiles
  dsimp only
  rw [oldest]
  rfl

/-- Settles O18: the owners' answers with the checks spelt out, and the three cases of a re-seed event. -/
theorem geometryAndProfiles : Obligations.GeometryAndProfiles := by
  refine ⟨fun f s h hb => ?_, fun f s h hb => ?_, fun m s => ⟨?_, setReseed_of_none m, fun r => setReseed_of_some m⟩⟩
  · intro t g v
    refine (exec_of_addressed .setGeometry h (by simp [bodyFits, hb])).trans (congrArg _ ?_)
    simp only [answerTo, answerSetGeometry, apply_ite (Answer.reply .setGeometry f), reply_refuse, reply_plain,
      Bool.not_eq_true']
    refine if_congr (by rw [← Bool.not_eq_true, geometry_inRange_iff]; rfl) rfl (if_congr (by simp) rfl ?_)
    have left : leaveOldPark g t = v := leaveOldPark_eq g t
    have job : (stalePointJob v).cve = (stalePointJob t).cve := by
      have kept : v.cve = t.cve := by
        rw [← left]
        simp
      simp only [stalePointJob, State.modCve_cve, kept]
    rw [show readGeometry f.body = g from rfl, left, replaceGeometry_eq, job]
    rfl
  · intro t gone left Z mark
    refine (exec_of_addressed .clearProfiles h (by simp [bodyFits, hb])).trans (congrArg _ ?_)
    exact congrArg (fun u => replied 0x33 f .done [] (motionTests u)) (clearProfiles_eq t)
  · simp [nextMark, nextScanNumber, Config.scanNumberMax]

end Sys2Proof.Machine
end

section
/-! PROOFS. SET_LINES and DRIVE_OUTPUTS (08): the line record, the levels that are due, the manual latches and the output lines. -/

namespace Sys2Proof.Machine

variable {s : State}

/-! ## Records of several lines -/

theorem mapM_eq_none_iff {α β : Type} {f : α → Option β} {l : List α} :
    l.mapM f = none ↔ ∃ a ∈ l, f a = none := by
  induction l with
  | nil => simp
  | cons a l ih =>
    cases h : f a with
    | none => simp [List.mapM_cons, h]
    | some b =>
      cases hl : l.mapM f with
      | none => simpa [List.mapM_cons, h, hl] using ih.1 hl
      | some r => simpa [List.mapM_cons, h, hl] using ih

/-- A complete reading holds, in order, what each place reads. -/
theorem mapM_eq_some {α β : Type} {f : α → Option β} {l : List α} {r : List β} (h : l.mapM f = some r) :
    l.map f = r.map some := by
  induction l generalizing r with
  | nil =>
    cases h
    rfl
  | cons a l ih =>
    cases ha : f a with
    | none => simp [List.mapM_cons, ha] at h
    | some b =>
      cases hl : l.mapM f with
      | none => simp [List.mapM_cons, ha, hl] at h
      | some t =>
        obtain rfl : b :: t = r := by simpa [List.mapM_cons, ha, hl] using h
        simp [ha, ih hl]

/-- In a complete reading of places 0 to n - 1, the entry at a place is what that place reads. -/
theorem getElem?_of_mapM_range {β : Type} {f : Nat → Option β} {n : Nat} {r : List β}
    (h : (List.range n).mapM f = some r) {i : Nat} {x : β} (hx : r[i]? = some x) : f i = some x := by
  have entry := congrArg (·[i]?) (mapM_eq_some h)
  have small : i < n := by
    have := congrArg List.length (mapM_eq_some h)
    simp only [List.length_map, List.length_range] at this
    have := (List.getElem?_eq_some_iff.1 hx).1
    omega
  simpa [hx, List.getElem?_range small] using entry

theorem length_of_mapM_range {β : Type} {f : Nat → Option β} {n : Nat} {r : List β}
    (h : (List.range n).mapM f = some r) : r.length = n := by
  simpa [eq_comm] using congrArg List.length (mapM_eq_some h)

/-! ## The fields of a line record (R171, R190) -/

theorem roleOf_eq_none_iff (n : Nat) : roleOf n = none ↔ 4 < n := by
  match n with
  | 0 | 1 | 2 | 3 | 4 => simp [roleOf]
  | n + 5 => simp [roleOf]

theorem modeOf_eq_none_iff (n : Nat) : modeOf n = none ↔ 3 < n := by
  match n with
  | 0 | 1 | 2 | 3 => simp [modeOf]
  | n + 4 => simp [modeOf]

theorem polarityOf_eq_none_iff (n : Nat) : polarityOf n = none ↔ 1 < n := by
  match n with
  | 0 | 1 => simp [polarityOf]
  | n + 2 => simp [polarityOf]

theorem sourceOf_eq_none_iff (n : Nat) : sourceOf n = none ↔ 7 < n := by
  match n with
  | 0 | 1 | 2 | 3 | 4 | 5 | 6 | 7 => simp [sourceOf]
  | n + 8 => simp [sourceOf]

theorem roleOf_eq_some {n : Nat} {role : InputRole} :
    roleOf n = some role → n =
      match role with
      | .noRole => 0
      | .break => 1
      | .interlock => 2
      | .stdRequest => 3
      | .machineRun => 4 := by
  intro h
  match n with
  | 0 | 1 | 2 | 3 | 4 => cases h; rfl
  | n + 5 => cases h

theorem modeOf_eq_some {n : Nat} {mode : InputMode} :
    modeOf n = some mode → n =
      match mode with
      | .level => 0
      | .rising => 1
      | .falling => 2
      | .both => 3 := by
  intro h
  match n with
  | 0 | 1 | 2 | 3 => cases h; rfl
  | n + 4 => cases h

theorem polarityOf_eq_some {n : Nat} {polarity : Polarity} :
    polarityOf n = some polarity → n =
      match polarity with
      | .activeHigh => 0
      | .activeLow => 1 := by
  intro h
  match n with
  | 0 | 1 => cases h; rfl
  | n + 2 => cases h

theorem sourceOf_eq_some {n : Nat} {source : OutputSource} :
    sourceOf n = some source → n =
      match source with
      | .manual => 0
      | .break => 1
      | .alarmUnacked => 2
      | .alarmActive => 3
      | .fault => 4
      | .onSheet => 5
      | .scanToggle => 6
      | .standardizing => 7 := by
  intro h
  match n with
  | 0 | 1 | 2 | 3 | 4 | 5 | 6 | 7 => cases h; rfl
  | n + 8 => cases h

/-- R171: what refuses the setting of an input line. -/
theorem readInputSetting_eq_none_iff (b : List Byte) (i : Nat) :
    readInputSetting b i = none ↔
      4 < u8 b (4 * i) ∨ 3 < u8 b (4 * i + 1) ∨ 1 < u8 b (4 * i + 2) ∨ u8 b (4 * i + 3) = 0
        ∨ ((u8 b (4 * i) = 2 ∨ u8 b (4 * i) = 4) ∧ u8 b (4 * i + 1) ≠ 0) := by
  unfold readInputSetting
  rw [← roleOf_eq_none_iff, ← modeOf_eq_none_iff, ← polarityOf_eq_none_iff]
  cases hr : roleOf (u8 b (4 * i)) with
  | none => simp
  | some role =>
    cases hm : modeOf (u8 b (4 * i + 1)) with
    | none => simp
    | some mode =>
      cases hp : polarityOf (u8 b (4 * i + 2)) with
      | none => simp
      | some polarity =>
        rw [roleOf_eq_some hr, modeOf_eq_some hm]
        cases role <;> cases mode <;> simp

theorem readInputSetting_eq_some {b : List Byte} {i : Nat} {x : InputSetting}
    (h : readInputSetting b i = some x) :
    roleOf (u8 b (4 * i)) = some x.role ∧ modeOf (u8 b (4 * i + 1)) = some x.mode
      ∧ polarityOf (u8 b (4 * i + 2)) = some x.polarity ∧ u8 b (4 * i + 3) = x.debounceMs := by
  unfold readInputSetting at h
  split at h
  next role mode polarity hr hm hp =>
    dsimp only at h
    split at h
    · cases h
    · cases h
      exact ⟨hr, hm, hp, rfl⟩
  next => cases h

theorem readOutputSetting_eq_none_iff (b : List Byte) (i : Nat) :
    readOutputSetting b i = none ↔ 7 < u8 b (32 + 2 * i) ∨ 1 < u8 b (33 + 2 * i) := by
  unfold readOutputSetting
  rw [← sourceOf_eq_none_iff, ← polarityOf_eq_none_iff, show 33 + 2 * i = 32 + 2 * i + 1 by omega]
  cases sourceOf (u8 b (32 + 2 * i)) <;> cases polarityOf (u8 b (32 + 2 * i + 1)) <;> simp

theorem readOutputSetting_eq_some {b : List Byte} {i : Nat} {x : OutputSetting}
    (h : readOutputSetting b i = some x) :
    sourceOf (u8 b (32 + 2 * i)) = some x.source ∧ polarityOf (u8 b (33 + 2 * i)) = some x.polarity := by
  unfold readOutputSetting at h
  rw [show 33 + 2 * i = 32 + 2 * i + 1 by omega]
  split at h
  next source polarity hs hp =>
    cases h
    exact ⟨hs, hp⟩
  next => cases h

theorem readLineRecord_eq_none_iff (b : List Byte) :
    readLineRecord b = none ↔
      (∃ i < 8, readInputSetting b i = none) ∨ ∃ i < 6, readOutputSetting b i = none := by
  have inputs := mapM_eq_none_iff (f := readInputSetting b) (l := List.range 8)
  have outputs := mapM_eq_none_iff (f := readOutputSetting b) (l := List.range 6)
  simp only [List.mem_range] at inputs outputs
  rw [← inputs, ← outputs, readLineRecord]
  cases (List.range 8).mapM (readInputSetting b) <;> cases (List.range 6).mapM (readOutputSetting b) <;> simp

theorem readLineRecord_eq_some {b : List Byte} {r : LineRecord} (h : readLineRecord b = some r) :
    (List.range 8).mapM (readInputSetting b) = some r.inputs
      ∧ (List.range 6).mapM (readOutputSetting b) = some r.outputs := by
  unfold readLineRecord at h
  split at h
  next inputs outputs hi ho =>
    cases h
    exact ⟨hi, ho⟩
  next => cases h

/-! ## Levels that are due (R172) -/

theorem lineDue_eq_true_iff (l : InputLine) :
    lineDue l = true ↔ l.high ≠ some l.raw ∧ l.setting.debounceMs * 1000 ≤ l.timer := by
  simp [lineDue]

theorem takeIfDue_of_due {i : Nat} {l : InputLine} (hl : s.plx.inputs[i]? = some l)
    (fresh : l.high ≠ some l.raw) (late : l.setting.debounceMs * 1000 ≤ l.timer) :
    takeIfDue s i = takeLevel i s := by
  simp only [takeIfDue, hl, (lineDue_eq_true_iff l).2 ⟨fresh, late⟩, if_true]

theorem takeIfDue_of_not_due {i : Nat}
    (h : ∀ l, s.plx.inputs[i]? = some l → l.high = some l.raw ∨ l.timer < l.setting.debounceMs * 1000) :
    takeIfDue s i = s := by
  unfold takeIfDue
  cases hl : s.plx.inputs[i]? with
  | none => rfl
  | some l =>
    have idle : ¬ lineDue l = true := by
      rw [lineDue_eq_true_iff]
      rcases h l hl with h | h
      · simp [h]
      · omega
    simp [idle]

/-! ## Output lines (R169, R170) -/

theorem latchAfter_eq (set clear old : Bool) :
    latchAfter set clear old = if clear then false else if set then true else old := by
  cases clear <;> cases set <;> rfl

/-- R170: the masks DRIVE_OUTPUTS refuses, and the latches it leaves. -/
theorem answerDriveOutputs_eq (set clear : Byte) (s : State) :
    answerDriveOutputs [set, clear] s =
      if 63 < set.toNat ∨ 63 < clear.toNat then refuse .range s
      else
        plain .done
          { s with
            plx :=
              { s.plx with
                outputs :=
                  s.plx.outputs.mapIdx fun i o =>
                    { o with
                      manual :=
                        if clear.toNat.testBit i then false
                        else if set.toNat.testBit i then true else o.manual } } } := by
  have refused : (64 ≤ set.toNat ∨ 64 ≤ clear.toNat) ↔ (63 < set.toNat ∨ 63 < clear.toNat) := by omega
  simp only [answerDriveOutputs, Bool.or_eq_true, decide_eq_true_eq]
  refine if_congr refused rfl ?_
  simp only [State.modPlx, driveOutputs, latchAfter_eq]
  rfl

theorem outputLogical_iff (s : State) (o : OutputLine) :
    outputLogical s o = true ↔
      match o.setting.source with
      | .manual => o.manual = true
      | .break => s.bkm.state ≠ .clear
      | .alarmUnacked => ∃ e ∈ s.plx.alarms, e.acknowledged = false
      | .alarmActive => ∃ e ∈ s.plx.alarms, e.active = true
      | .fault => ∃ kind, s.trc.state = .faulted kind
      | .onSheet =>
        isScanning s.trc.state = true
          ∧ ∃ g, s.gtu.geometry = some g ∧ (g.W0 : Int) ≤ s.trc.position ∧ s.trc.position ≤ g.W1
      | .scanToggle => s.plx.scanToggle = true
      | .standardizing => isDwell s.trc.state = true := by
  unfold outputLogical
  cases o.setting.source <;> simp [sourceValue, isFaulted_iff, Geometry.inWindow, Option.any_eq_true]

theorem outputDriven_eq (s : State) (o : OutputLine) :
    outputDriven s o = (outputLogical s o == (o.setting.polarity == .activeHigh)) := by
  unfold outputDriven
  cases o.setting.polarity <;> cases outputLogical s o <;> rfl

/-- Settles O23: the due lines, the two owners' answers, the sources, and the reading of the record place by place. -/
theorem lineRequests : Obligations.LineRequests := by
  refine ⟨fun i u => ⟨fun l hl fresh late => ?_, takeIfDue_of_not_due⟩, fun f s h => ?_⟩
  · rw [takeIfDue_of_due hl fresh late]
    rfl
  intro t
  refine ⟨fun hb => ⟨fun unread => ?_, fun r hr => ?_⟩, fun set clear hb => ?_, fun o => ?_, ?_⟩
  · refine (exec_of_addressed .setLines h (by simp [bodyFits, hb])).trans (congrArg _ ?_)
    simp only [answerTo, answerSetLines, unread]
    rfl
  · refine (exec_of_addressed .setLines h (by simp [bodyFits, hb])).trans (congrArg _ ?_)
    simp only [answerTo, answerSetLines, hr, reply_plain, setLines, State.modPlx, replaceSettings, kindCode, t]
  · refine (exec_of_addressed .driveOutputs h (by simp [bodyFits, hb])).trans (congrArg _ ?_)
    rw [answerTo, hb, answerDriveOutputs_eq, apply_ite (Answer.reply .driveOutputs f), reply_refuse, reply_plain,
      kindCode]
  · exact ⟨outputLogical_iff s o, outputDriven_eq s o⟩
  · intro body b
    refine ⟨?_, fun r hr => ?_⟩
    · simp only [readLineRecord_eq_none_iff, readInputSetting_eq_none_iff, readOutputSetting_eq_none_iff]
      rfl
    · obtain ⟨inputs, outputs⟩ := readLineRecord_eq_some hr
      refine ⟨length_of_mapM_range inputs, length_of_mapM_range outputs, fun i x hx => ?_, fun i x hx => ?_⟩
      · obtain ⟨role, mode, polarity, debounce⟩ := readInputSetting_eq_some (getElem?_of_mapM_range inputs hx)
        exact ⟨roleOf_eq_some role, modeOf_eq_some mode, polarityOf_eq_some polarity, debounce⟩
      · obtain ⟨source, polarity⟩ := readOutputSetting_eq_some (getElem?_of_mapM_range outputs hx)
        exact ⟨sourceOf_eq_some source, polarityOf_eq_some polarity⟩

end Sys2Proof.Machine
end

section
/-! PROOFS. Changes of the traverse state (01): moves, entries, the tests after a change, the orders of other blocks, and the abort of a scan. -/

namespace Sys2Proof.Machine

variable {s : State}

/-! ## Moves (R4, R7, R22, R34, R46) -/

theorem enterState_eq (new : TraverseState) (t : Traverse) :
    enterState new t =
      { t with
        state := new
        buffer := if loopRuns new then t.buffer else 0
        duty := if loopRuns new then t.duty else 0
        stallMs := if loopRuns t.state = loopRuns new then t.stallMs else 0
        homingTimer := if isHoming new then t.homingTimer else none
        dwellHold := t.dwellHold && !(t.state == .parked && new != .parked) } := by
  simp only [enterState, forcesZero, beq_iff_eq]
  congr 1
  · cases t.state == .parked && new != .parked <;> simp
  all_goals by_cases hn : loopRuns new = true <;> simp [hn]

theorem moveTo_eq (new : TraverseState) (s : State) :
    moveTo new s =
      { s with
        trc := enterState new s.trc
        gtu :=
          { s.gtu with
            comparator := if isScanning s.trc.state ∧ isScanning new = false then none else s.gtu.comparator
            pointTimer := if isPoint s.trc.state ∧ isPoint new = false then none else s.gtu.pointTimer }
        bkm :=
          { s.bkm with
            watch := if isPoint s.trc.state ∧ isPoint new = false then .off else s.bkm.watch
            runCount := if isPoint s.trc.state ∧ isPoint new = false then 0 else s.bkm.runCount } } := by
  unfold moveTo leavePoint
  simp only [Bool.and_eq_true, Bool.not_eq_true']
  by_cases hs : isScanning s.trc.state = true ∧ isScanning new = false <;>
    by_cases hp : isPoint s.trc.state = true ∧ isPoint new = false <;> simp only [hs, hp, if_false] <;> rfl

theorem stalePointJob_of_point {j : SampleJob} (h : s.cve.job = some (.sample j)) (hp : j.record.kind = .point) :
    stalePointJob s = { s with cve := { s.cve with job := some (.sample { j with stale := true }) } } := by
  simp [stalePointJob, State.modCve, h, hp]

theorem stalePointJob_of_other (h : ∀ j, s.cve.job = some (.sample j) → j.record.kind ≠ .point) :
    stalePointJob s = s := by
  rw [stalePointJob, State.modCve]
  split
  next j hj => simp [h j hj]
  next => rfl

theorem enterDwell_eq (resume : Bool) (s : State) :
    enterDwell resume s =
      (let m := moveTo (.dwell resume) s
      { m with
        gtu :=
          { m.gtu with
            gateTimer := 0, counters := { bwc := 0, mac := 0, mrc := 0, clc := 0 }
            unconfirmed := !s.sdu.confirm.level, subGateTimer := some 0 }
        sdu :=
          { m.sdu with
            dwell :=
              some
                { step := .dark, taken := 0
                  dark := { time := 0, bw := 0, ma := 0, mr := 0, cl := 0 }
                  air := { time := 0, bw := 0, ma := 0, mr := 0, cl := 0 }
                  darkShutter := s.sdu.confirm.level
                  satBw := false, satMa := false, satMr := false, satCl := false } } }) := by
  simp only [enterDwell, capture, moveTo_eq]
  rfl

/-- R46, R114, R141: the gate unit after the entry into POINT. -/
theorem enterPoint_gtu (position period : Nat) (s : State) :
    (enterPoint position period s).gtu =
      { removeRecords (fun r => r.kind == .point) (moveTo (.point position period) s).gtu with
        pointSequence := 0, pointTimer := some 0, gateTimer := 0
        counters := { bwc := 0, mac := 0, mrc := 0, clc := 0 }
        unconfirmed := !(moveTo (.point position period) s).sdu.confirm.level } := by
  simp [enterPoint, capture_gtu, Counts.zero]

/-- Settles O25: the move field by field, and each entry as a move with what it starts. -/
theorem traverseMoves : Obligations.TraverseMoves := by
  refine ⟨fun new s => ?_, fun s => ⟨fun j => stalePointJob_of_point, stalePointJob_of_other⟩,
    fun s => ⟨rfl, fun resume => enterDwell_eq resume s, fun position period => ?_⟩⟩
  · rw [moveTo_eq, enterState_eq]
  · intro t
    obtain ⟨_, queue, held, _⟩ := moveTo_gtu (.point position period) s
    have gtu := enterPoint_gtu position period s
    refine ⟨by simp [t, enterPoint], by rw [gtu], by rw [gtu], by rw [gtu], by rw [gtu], ?_, rfl, rfl,
      by simp [t, enterPoint], ?_, by simp [t], by simp [t], by simp [t], by simp [t]⟩
    · rw [gtu]
      simp only [removeRecords_contents, queue, held]
      rfl
    · have same : ∀ u : State, u.cve = s.cve → (stalePointJob u).cve = (stalePointJob s).cve := by
        intro u hu
        simp only [stalePointJob, State.modCve_cve, hu]
      exact same _ (by simp)

/-! ## The tests after a change (R22, R146 to R148, R153) -/

theorem probingLostTest_of_not_probing (h : s.bkm.state ≠ .probing) : probingLostTest s = s := by
  simp [probingLostTest, h]

theorem dwellTest_eq (s : State) :
    dwellTest s = if s.trc.state = .parked ∧ dwellReady s then enterDwell false s else s := by
  simp [dwellTest]

theorem enterDwell_state (resume : Bool) (s : State) :
    (enterDwell resume s).trc.state = .dwell resume ∧ (enterDwell resume s).bkm.state = s.bkm.state := by
  obtain ⟨state, _, _⟩ := moveTo_bkm (.dwell resume) s
  rw [enterDwell_eq]
  refine ⟨?_, state⟩
  dsimp only
  rw [moveTo_trc]
  rfl

/-- Where the traverse is not in PARKED, the tests of the break monitor leave the state. -/
theorem breakTests_of_not_parked (h : s.trc.state ≠ .parked) :
    probingTest (delayTest (waitingTest s)) = s := by
  simp [waitingTest, delayTest, probingTest, h]

/-- Out of PROBING and out of PARKED only the shutter follows. -/
theorem motionTests_of_not_parked (h : s.trc.state ≠ .parked) (hp : s.bkm.state ≠ .probing) :
    motionTests s = shutterFollow s := by
  rw [motionTests, parkTests, probingLostTest_of_not_probing hp, dwellTest_eq, if_neg (fun a => h a.1),
    breakTests_of_not_parked h]

/-- In PARKED a dwell that is ready is taken before the break moves on. -/
theorem motionTests_of_dwellReady (hp : s.bkm.state ≠ .probing) (parked : s.trc.state = .parked)
    (ready : dwellReady s = true) : motionTests s = shutterFollow (enterDwell false s) := by
  rw [motionTests, parkTests, probingLostTest_of_not_probing hp, dwellTest_eq, if_pos ⟨parked, ready⟩,
    breakTests_of_not_parked (by rw [(enterDwell_state false s).1]; simp)]

/-- In PARKED with no dwell ready, the tests are those of the break monitor. -/
theorem motionTests_of_idle (hp : s.bkm.state ≠ .probing) (idle : dwellReady s = false) :
    motionTests s = shutterFollow (probingTest (delayTest (waitingTest s))) := by
  rw [motionTests, parkTests, probingLostTest_of_not_probing hp, dwellTest_eq, if_neg (by simp [idle])]

/-- In CLEAR and PROBING the tests of the break monitor leave the state. -/
theorem breakTests_of_no_delay (h : s.bkm.state = .clear ∨ s.bkm.state = .probing) :
    probingTest (delayTest (waitingTest s)) = s := by
  rcases h with h | h <;> simp [waitingTest, delayTest, probingTest, h]

theorem motionTests_of_clear (h : s.bkm.state = .clear) :
    motionTests s = shutterFollow (if s.trc.state = .parked ∧ dwellReady s then enterDwell false s else s) := by
  rw [motionTests, parkTests, probingLostTest_of_not_probing (by simp [h]), dwellTest_eq, breakTests_of_no_delay]
  left
  split
  · rw [(enterDwell_state false s).2, h]
  · exact h

/-- A probe that is not lost stays: a dwell waits for the end of probing. -/
theorem motionTests_of_probing (h : s.bkm.state = .probing) (kept : probingLostTest s = s) :
    motionTests s = shutterFollow s := by
  rw [motionTests, parkTests, kept, dwellTest_eq, if_neg (by simp [dwellReady, h]),
    breakTests_of_no_delay (.inr h)]

/-- Settles O26: by break state, through the tests in their order. -/
theorem parkedTests : Obligations.ParkedTests := by
  intro s
  refine ⟨dwellReady_iff s, fun us h => ?_, motionTests_of_clear, motionTests_of_not_parked,
    fun parked hp => motionTests_of_dwellReady hp parked, fun parked idle => ⟨?_, ?_, ?_, ?_⟩,
    fun hp scanning => ?_, fun hp ⟨c, hc, kind⟩ => ?_, fun hp reset => ?_, fun hp out reset lost => ?_⟩
  · change Host.Outcome.next (recoveryDelayExpiry s) = _
    simp [recoveryDelayExpiry, h, expireDelay, State.modBkm]
  · rintro (⟨hb, level⟩ | hb) <;> rw [motionTests_of_idle (by simp [hb]) idle] <;>
      simp [waitingTest, delayTest, probingTest, recoveryUs, State.modBkm, *]
  · rintro ⟨hb, level⟩
    rw [motionTests_of_idle (by simp [hb]) idle]
    simp [waitingTest, delayTest, probingTest, hb, level]
  · intro us hb
    rw [motionTests_of_idle (by simp [hb]) idle]
    simp [waitingTest, delayTest, probingTest, hb]
  · intro hb
    rw [motionTests_of_idle (by simp [hb]) idle]
    simp [waitingTest, delayTest, probingTest, hb, parked, State.modBkm]
  · exact motionTests_of_probing hp (by simp [probingLostTest, scanning])
  · exact motionTests_of_probing hp (by simpa [probingLostTest] using fun _ _ h => absurd kind (h c hc))
  · exact motionTests_of_probing hp (by simp [probingLostTest, reset])
  · have returned : probingLostTest s = returnToWaiting s := by
      simpa [probingLostTest, hp, out, reset] using fun c hc kind => absurd kind (lost c hc)
    have waiting : (returnToWaiting s).bkm.state ≠ .probing := by simp [returnToWaiting]
    have same : motionTests (returnToWaiting s) = motionTests s := by
      rw [motionTests, motionTests, parkTests, parkTests, returned, probingLostTest_of_not_probing waiting]
    rw [← same]
    simp [returnToWaiting, State.modBkm, recoveryUs]

/-! ## Orders and the abort of a scan (R25 to R28) -/

theorem dropWatch_of_watched {numbers : List Nat} {n : Nat} {region : Option (Nat × Nat)}
    (h : s.bkm.watch = .scan n region) (hn : n ∈ numbers) :
    (dropWatch numbers s).bkm = { s.bkm with watch := .off, runCount := 0 } := by
  simp [dropWatch, h, hn]

theorem dropWatch_of_unwatched {numbers : List Nat}
    (h : ∀ n region, n ∈ numbers → s.bkm.watch ≠ .scan n region) : dropWatch numbers s = s := by
  unfold dropWatch
  split
  next n region hw =>
    have : n ∉ numbers := fun hn => h n region hn hw
    simp [this]
  next => rfl

theorem not_contains_singleton (n x : Nat) : (!([n].contains x)) = (x != n) := by
  rw [List.contains_cons, List.contains_nil, Bool.or_false, bne]

theorem not_ofScans_singleton (n : Nat) (r : SampleRecord) :
    (!ofScans [n] r) = (r.kind == .point || r.number != n) := by
  rw [ofScans, Bool.not_and, not_contains_singleton, bne, Bool.not_not]

/-- What the abort of a scan leaves in every block. -/
theorem abortOpenScan_eq {o : OpenScan} (h : s.gtu.openScan = some o) :
    abortOpenScan s =
      dropWatch [o.number]
        { s with
          gtu := removeRecords (ofScans [o.number]) { s.gtu with comparator := none, openScan := none }
          pfb := { s.pfb with contexts := s.pfb.contexts.filter fun c => c.number != o.number }
          grs := { s.grs with pins := s.grs.pins.filter fun p => p.scan != o.number } } := by
  simp only [abortOpenScan, h, removeScans, purge, State.modPfb, State.modGrs, State.modGtu, not_contains_singleton]

theorem abortOpenScan_gtu {o : OpenScan} (h : s.gtu.openScan = some o) :
    (abortOpenScan s).gtu =
      removeRecords (ofScans [o.number]) { s.gtu with comparator := none, openScan := none } := by
  rw [abortOpenScan_eq h]
  simp

/-- Settles O27: the orders by traverse state; the abort by the blocks it acts on. -/
theorem ordersAndAborts : Obligations.OrdersAndAborts := by
  intro s
  refine ⟨fun us h => ?_, ?_, rfl, fun reset => ?_, fun reset => ?_, fun h => by simp [abortOpenScan, h],
    fun o h => ?_⟩
  · change Host.Outcome.next (silenceTimeout s) = _
    simp only [silenceTimeout, h]
    rfl
  · unfold parkOrder
    cases s.trc.state with
    | transit _ following => cases following <;> rfl
    | _ => rfl
  · unfold scanOrder
    cases s.trc.state <;> simp [reset]
  · unfold scanOrder
    cases s.trc.state <;> simp [reset]
  · intro t
    have left := abortOpenScan_eq h
    have gates := abortOpenScan_gtu h
    have layout := removeRecords_eq (ofScans [o.number]) { s.gtu with comparator := none, openScan := none }
    simp only [not_ofScans_singleton] at layout
    have contents := removeRecords_contents (ofScans [o.number]) { s.gtu with comparator := none, openScan := none }
    simp only [not_ofScans_singleton] at contents
    refine ⟨?_, ?_, ?_, ?_, ?_, ?_, fun region hw => ?_, fun hw => ?_, by simp [t], by simp [t], by simp [t], by simp [t],
      by simp [t], by simp [t]⟩
    · rw [gates, layout]
    · rw [gates, layout]
    · rw [gates, contents]
    · rw [gates]
      exact layout
    · simp only [t, left, dropWatch_frame]
    · simp only [t, left, dropWatch_frame]
    · simp only [t, left]
      exact dropWatch_of_watched hw (by simp)
    · simp only [t, left]
      rw [dropWatch_of_unwatched]
      rintro n region hn
      rw [List.mem_singleton.1 hn]
      exact hw region

end Sys2Proof.Machine
end

section
/-! PROOFS. The events of the traverse (01): the speed loop and its setpoints, the bridge and the faults, the frame switches, and the encoder edges with the reversals. -/

namespace Sys2Proof.Machine

variable {s : State}

/-! ## The loop run (R2, R5, R7) -/

theorem clampInt_eq {lo hi : Int} (h : lo ≤ hi) (x : Int) :
    clampInt lo hi x = if x < lo then lo else if hi < x then hi else x := by
  unfold clampInt
  split <;> [skip; split] <;> omega

theorem slow_iff (t : Traverse) : slow t = true ↔ t.vMeas.natAbs < 50 := by simp [slow]

/-- R5, R7: one run of the loop, with the buffer and the stall timer spelt out. -/
theorem loopUpdate_eq (vSet : Int) (t : Traverse) :
    let raw := t.buffer + ((t.drive.kp : Int) * (vSet - t.vMeas)).tdiv 1024
    let buffer : Int := if raw < -1023 then -1023 else if 1023 < raw then 1023 else raw
    loopUpdate vSet t =
      { t with
        buffer := buffer
        stallMs :=
          if t.drive.stallDuty ≤ buffer.natAbs ∧ t.vMeas.natAbs < 50 then min 500 (t.stallMs + 1) else 0 } := by
  intro raw buffer
  have clamped : loopBuffer t.drive.kp t.buffer vSet t.vMeas = buffer := clampInt_eq (by decide) raw
  simp [loopUpdate, watchStall, stalled, slow, clamped, Config.stallMs]

theorem startToPark_of_other {t : Traverse} (h : t.state ≠ .homing (.toPark false)) : startToPark t = t := by
  unfold startToPark
  split
  next hs => exact absurd hs h
  next => rfl

/-- A run where the loop runs and no move to P starts. -/
theorem speedLoopRun_of_running (runs : loopRuns s.trc.state = true)
    (h : s.trc.state ≠ .homing (.toPark false)) :
    speedLoopRun s =
      haltTest (arrivalTest ((s.modTrc formSpeed).modTrc (loopUpdate (setpoint (s.modTrc formSpeed))))) := by
  have unstarted : (s.modTrc formSpeed).modTrc startToPark = s.modTrc formSpeed := by
    rw [State.modTrc, startToPark_of_other (by exact h)]
  rw [Machine.speedLoopRun, if_pos (by exact runs), loopRun, unstarted]

theorem arrivalTest_of_no_target (h : ∀ g, moveTarget? g s.trc.state = none) : arrivalTest s = s := by
  unfold arrivalTest
  cases s.gtu.geometry <;> simp [h]

theorem arrivalTest_of_target {g : Geometry} {target : Nat} (hg : s.gtu.geometry = some g)
    (h : moveTarget? g s.trc.state = some target) :
    arrivalTest s =
      if (s.trc.position - (target : Int)).natAbs ≤ 5 ∧ s.trc.vMeas.natAbs < 50 then arrival s else s := by
  simp [arrivalTest, hg, h, arrived, slow]

theorem haltTest_of_other (h : s.trc.state ≠ .halting) : haltTest s = s := by
  unfold haltTest
  split
  next hs => exact absurd hs h
  next => rfl

/-- The tests after a change take no head to HALTING. -/
theorem motionTests_not_halting (h : s.trc.state ≠ .halting) : (motionTests s).trc.state ≠ .halting := by
  have dwell (t : State) (ht : t.trc.state ≠ .halting) : (dwellTest t).trc.state ≠ .halting := by
    unfold dwellTest
    split
    · simp [(enterDwell_state false t).1]
    · exact ht
  have probe (t : State) (ht : t.trc.state ≠ .halting) : (probingTest t).trc.state ≠ .halting := by
    unfold probingTest scanOrder enterScanning
    (repeat' split)
    · exact ht
    · simp [moveTo_trc, enterState]
    · exact ht
    · exact ht
  rw [motionTests, parkTests, (shutterFollow_frame _).1]
  refine probe _ ?_
  rw [(delayTest_frame _).1, (waitingTest_frame _).1]
  refine dwell _ ?_
  rw [(probingLostTest_frame _).1]
  exact h

theorem arrival_not_halting (h : s.trc.state ≠ .halting) : (arrival s).trc.state ≠ .halting := by
  have scan : (arriveToScan s).trc.state ≠ .halting := by
    unfold arriveToScan
    split
    · simp [(enterDwell_state true s).1]
    · simp [enterScanning, moveTo_trc, enterState]
  unfold arrival
  split
  next => exact motionTests_not_halting scan
  next => exact motionTests_not_halting (by simp [moveTo_trc, enterState])
  next => exact motionTests_not_halting (by simp [enterPoint, moveTo_trc, enterState])
  next => exact motionTests_not_halting (by simp [moveTo_trc, enterState])
  next => exact h

/-- An arrival leaves no halt to test. -/
theorem haltTest_arrivalTest (h : s.trc.state ≠ .halting) : haltTest (arrivalTest s) = arrivalTest s := by
  refine haltTest_of_other ?_
  unfold arrivalTest
  split
  · split
    · exact arrival_not_halting h
    · exact h
  · exact h

/-- R10: the end of a transit. -/
theorem arrival_of_transit (s : State) (target : Target) (following : ThenAction) :
    s.trc.state = .transit target following → arrival s =
      motionTests
        (match target, following with
        | .point position period, _ => enterPoint position period s
        | .park, .scan => if dwellReady s then enterDwell true s else enterScanning s
        | .park, _ => moveTo .parked s) := by
  intro h
  unfold arrival
  rw [h]
  cases target <;> cases following <;> rfl

/-- Settles O28: the loop as one update, then the tests of arrival and halt by traverse state. -/
theorem Certificates.speedLoopRun : Obligations.SpeedLoopRun := by
  intro s v formed raw buffer u
  have ran : (s.modTrc formSpeed).modTrc (loopUpdate (setpoint (s.modTrc formSpeed))) = u := by
    rw [State.modTrc, loopUpdate_eq]
    rfl
  have run (runs : loopRuns s.trc.state = true) (h : s.trc.state ≠ .homing (.toPark false)) :
      exec .speedLoopRun s = .next (haltTest (arrivalTest u)) := by
    rw [← ran, ← speedLoopRun_of_running runs h]
    rfl
  have same : u.trc.state = s.trc.state := rfl
  refine ⟨fun stopped => ?_, fun moving => ?_, fun halting => ?_, fun g target following hg hs => ?_,
    fun g hg hs => ?_, fun hs => ?_⟩
  · change Host.Outcome.next (Machine.speedLoopRun s) = _
    rw [Machine.speedLoopRun, if_neg (by simpa [formSpeed] using stopped)]
    rfl
  · have untargeted : ∀ g, moveTarget? g u.trc.state = none := by
      intro g
      rw [same]
      cases hs : s.trc.state with
      | homing step => cases step <;> simp_all [moveTarget?, isScanning, isPoint]
      | _ => simp_all [moveTarget?, isScanning, isPoint]
    have runs : loopRuns s.trc.state = true := by
      cases hs : s.trc.state <;> simp_all [loopRuns, isScanning, isPoint]
    have unhalted : s.trc.state ≠ .halting := by
      rintro hs
      simp [hs, isScanning, isPoint] at moving
    rw [run runs (by rintro hs; simp [hs, isScanning, isPoint] at moving),
      haltTest_arrivalTest (same ▸ unhalted), arrivalTest_of_no_target untargeted]
  · rw [run (by simp [halting, loopRuns]) (by simp [halting]),
      arrivalTest_of_no_target (fun g => by rw [same, halting]; rfl), haltTest, same, halting]
    exact congrArg _ (if_congr (slow_iff _) rfl rfl)
  · rw [run (by simp [hs, loopRuns]) (by simp [hs]), haltTest_arrivalTest (by simp [same, hs]),
      arrivalTest_of_target (s := u) (target := targetPosition g target) hg (by rw [same, hs]; rfl),
      arrival_of_transit u target following (same.trans hs)]
    cases target <;> rfl
  · rw [run (by simp [hs, loopRuns]) (by simp [hs]), haltTest_arrivalTest (by simp [same, hs]),
      arrivalTest_of_target (s := u) (target := g.P) hg (by rw [same, hs]; rfl)]
    have arrives : arrival u =
        motionTests { moveTo .parked u with trc := { (moveTo .parked u).trc with homed := true } } := by
      rw [arrival, same, hs]
      rfl
    rw [arrives]
  · have stepped : exec .speedLoopRun s =
        .next (haltTest (arrivalTest (((s.modTrc formSpeed).modTrc startToPark).modTrc
          (loopUpdate (setpoint ((s.modTrc formSpeed).modTrc startToPark)))))) := by
      change Host.Outcome.next (Machine.speedLoopRun s) = _
      rw [Machine.speedLoopRun, if_pos (by simp [formSpeed, hs, loopRuns])]
      rfl
    have start : startToPark (formSpeed s.trc) =
        if v.natAbs < 50 then formSpeed { s.trc with state := .homing (.toPark true) } else formSpeed s.trc := by
      rw [startToPark, show (formSpeed s.trc).state = _ from hs]
      exact if_congr (slow_iff _) rfl rfl
    rw [stepped]
    split
    next rest =>
      have moved : (s.modTrc formSpeed).modTrc startToPark =
          State.modTrc { s with trc := { s.trc with state := .homing (.toPark true) } } formSpeed := by
        simp only [State.modTrc, start, if_pos rest]
      rw [moved, ← speedLoopRun_of_running (by simp [loopRuns]) (by simp)]
      rfl
    next moving =>
      have waits : (s.modTrc formSpeed).modTrc startToPark = s.modTrc formSpeed := by
        simp only [State.modTrc, start, if_neg moving]
      rw [waits, ran, haltTest_arrivalTest (by simp [same, hs]),
        arrivalTest_of_no_target (fun g => by rw [same, hs]; rfl)]

/-! ## Setpoints (R9 to R14) -/

theorem setpoint_eq {g : Geometry} (hg : s.gtu.geometry = some g) : setpoint s = setpointIn g s := by
  simp [setpoint, hg]

/-- R10: the speed towards a target, ramped over the last part of the way. -/
theorem transitSetpoint_eq (g : Geometry) (target speed : Nat) (position : Int) :
    transitSetpoint g target speed position =
      (let d := ((target : Int) - position).natAbs
      let magnitude : Int :=
        if d < g.U / 2 then ((2 * (speed * d) + g.U / 2) / (2 * (g.U / 2)) : Nat) else speed
      if position ≤ target then magnitude else -magnitude) := by
  have sign : (0 ≤ (target : Int) - position) ↔ position ≤ target := by omega
  simp only [transitSetpoint, ramped, Geometry.ramp, sign, nearestUp]
  by_cases near : ((target : Int) - position).natAbs < g.U / 2 <;> simp only [near, if_true, if_false]

/-- Settles O30: the setpoint by traverse state, with its ramps spelt out. -/
theorem setpoints : Obligations.Setpoints := by
  intro g s hg ramp quotient towards
  rw [setpoint_eq hg]
  refine ⟨fun hs => ?_, fun position period hs => ?_, fun target following hs => ?_, fun hs => ?_, fun hs => ?_,
    fun hs => ?_, fun hs => ?_, fun d phase approach park grade hs hgrade => ?_⟩
  · simp only [setpointIn, hs]
  · simp only [setpointIn, hs]
    exact clampInt_eq (by decide) _
  · simp only [setpointIn, hs, transitSetpoint_eq]
    cases target <;> rfl
  · simp only [setpointIn, hs, homingSetpoint]
  · simp only [setpointIn, hs, homingSetpoint]
  · simp only [setpointIn, hs, homingSetpoint]
  · simp only [setpointIn, hs, homingSetpoint]
    exact transitSetpoint_eq g g.P _ _
  · intro v ahead behind magnitude
    have speed : gradeSpeed s = v := by simp [gradeSpeed, hgrade, v]
    have chosen : setpointIn g s = directed d magnitude := by
      simp only [setpointIn, hs, scanSetpoint, speed]
      congr 1
      cases phase with
      | inWindow => rfl
      | turn =>
        cases approach with
        | true => rfl
        | false =>
          simp only [magnitude]
          cases s.gtu.comparator <;> cases d <;> rfl
    rw [chosen]
    cases d <;> rfl

/-! ## The bridge and the faults (R6, R7, R23) -/

theorem pwmPeriodStart_eq (t : Traverse) :
    pwmPeriodStart t =
      { t with duty := if loopRuns t.state ∧ t.offTime = none then t.buffer else 0, pwmPhase := 0 } := by
  simp [pwmPeriodStart]

/-- R6: a trip with the bridge enabled, below the eighth. -/
theorem currentTrip_of_few (h : isFaulted s.trc.state = false) (few : s.trc.tripCount < 7) :
    currentTrip s =
      { s with
        trc :=
          { s.trc with
            duty := 0, offTime := some (s.trc.drive.offTimeMs * 1000), tripCount := s.trc.tripCount + 1 } } := by
  have below : ¬ s.trc.tripCount = 7 := by omega
  have count : min 8 (s.trc.tripCount + 1) = s.trc.tripCount + 1 := by omega
  simp [currentTrip, h, below, tripDrive, count, Config.tripLimit, State.modTrc]

theorem currentTrip_of_eighth (h : isFaulted s.trc.state = false) (seven : s.trc.tripCount = 7) :
    currentTrip s =
      motionTests
        (enterFaulted .driveCurrent
          { s with
            trc :=
              { s.trc with duty := 0, offTime := some (s.trc.drive.offTimeMs * 1000), tripCount := 8 } }) := by
  simp [currentTrip, h, seven, tripDrive, Config.tripLimit, State.modTrc, faultNow]

theorem abortDwell_sdu (s : State) :
    (abortDwell s).sdu.dwell = none ∧ (abortDwell s).sdu.refs = s.sdu.refs
      ∧ (abortDwell s).sdu.wanted = s.sdu.wanted := by
  unfold abortDwell
  split
  next h => exact ⟨h, rfl, rfl⟩
  next => exact ⟨rfl, by simp [staleEvaluation], by simp [staleEvaluation]⟩

theorem homedAfterFault_eq (kind : FaultKind) (t : Traverse) :
    homedAfterFault kind t =
      (t.homed && (kind == .driveCurrent || kind == .driveStall) && !isHoming t.state) := by
  cases kind <;> simp [homedAfterFault]

/-- R23: the entry into FAULTED as the two aborts, the move, homed by its rule and the raise. -/
theorem enterFaulted_eq (kind : FaultKind) (s : State) :
    enterFaulted kind s =
      (let m := moveTo (.faulted kind) (abortDwell (abortOpenScan s))
      raiseFor (faultAlarm kind) s.trc.position s.pfb.scanNumber
        { m with
          trc :=
            { m.trc with
              homed :=
                s.trc.homed && (kind == .driveCurrent || kind == .driveStall) && !isHoming s.trc.state } }) := by
  have position : (moveTo (.faulted kind) (abortDwell (abortOpenScan s))).trc.position = s.trc.position := by
    simp [moveTo_trc, enterState]
  have scan : (moveTo (.faulted kind) (abortDwell (abortOpenScan s))).pfb.scanNumber = s.pfb.scanNumber := by
    simp
  simp only [enterFaulted, homedAfterFault_eq, raiseAlarm, State.modTrc, position, scan]

/-- R23: the blocks after the entry into FAULTED. -/
theorem enterFaulted_blocks (kind : FaultKind) (s : State) :
    (enterFaulted kind s).trc =
        { enterState (.faulted kind) s.trc with
          homed := s.trc.homed && (kind == .driveCurrent || kind == .driveStall) && !isHoming s.trc.state }
      ∧ (enterFaulted kind s).gtu = (moveTo (.faulted kind) (abortDwell (abortOpenScan s))).gtu
      ∧ (enterFaulted kind s).pfb = (abortOpenScan s).pfb
      ∧ (enterFaulted kind s).sdu = (abortDwell (abortOpenScan s)).sdu
      ∧ (enterFaulted kind s).plx = (raiseFor (faultAlarm kind) s.trc.position s.pfb.scanNumber s).plx := by
  rw [enterFaulted_eq]
  simp [moveTo_trc, raiseFor]

theorem abortDwell_gtu (s : State) :
    (abortDwell s).gtu.queue = s.gtu.queue ∧ (abortDwell s).gtu.openScan = s.gtu.openScan
      ∧ (abortDwell s).gtu.comparator = s.gtu.comparator := by
  unfold abortDwell
  split <;> simp [staleEvaluation]

theorem moveTo_openScan (new : TraverseState) (s : State) : (moveTo new s).gtu.openScan = s.gtu.openScan := by
  rw [moveTo_eq]

/-- R23, R28: a fault leaves no open scan, and no record of the one it aborts. -/
theorem enterFaulted_gtu (kind : FaultKind) {o : OpenScan} (h : s.gtu.openScan = some o) :
    (enterFaulted kind s).gtu.openScan = none
      ∧ ∀ r ∈ (enterFaulted kind s).gtu.queue, r.kind ≠ .point → r.number ≠ o.number := by
  obtain ⟨_, gtu, _⟩ := enterFaulted_blocks kind s
  obtain ⟨_, moved, _⟩ := moveTo_gtu (.faulted kind) (abortDwell (abortOpenScan s))
  obtain ⟨queue, openScan, _⟩ := abortDwell_gtu (abortOpenScan s)
  rw [gtu, moveTo_openScan, openScan, moved, queue, abortOpenScan_gtu h]
  refine ⟨by rw [removeRecords_rest], fun r hr hk => ?_⟩
  have contents := removeRecords_contents (ofScans [o.number]) { s.gtu with comparator := none, openScan := none }
  have kept := contents ▸ List.mem_append_left _ hr
  simp only [not_ofScans_singleton] at kept
  simpa [hk] using (List.mem_filter.1 kept).2

/-- Settles O29: the bridge by its state, and the entry into FAULTED block by block. -/
theorem faultAndBridgeEvents : Obligations.FaultAndBridgeEvents := by
  refine ⟨fun s => ⟨?_, rfl, rfl, fun h => ?_, fun h few => ?_⟩, fun s => ⟨fun h => ?_, fun h => ?_, fun h seven => ?_,
    fun kind => ?_⟩⟩
  · exact congrArg (fun t => Host.Outcome.next { s with trc := t }) (pwmPeriodStart_eq s.trc)
  · exact congrArg Host.Outcome.next (by simp [currentTrip, h])
  · exact congrArg Host.Outcome.next (currentTrip_of_few h few)
  · exact congrArg Host.Outcome.next (by simp [Machine.stallTimeout, h, faultNow])
  · exact congrArg Host.Outcome.next (by simp [Machine.homingTimeout, h, faultNow])
  · exact congrArg Host.Outcome.next (currentTrip_of_eighth h seven)
  · intro t
    obtain ⟨trc, gtu, pfb, sdu, plx⟩ := enterFaulted_blocks kind s
    obtain ⟨dwell, refs, wanted⟩ := abortDwell_sdu (abortOpenScan s)
    refine ⟨by rw [trc]; rfl, by rw [trc]; rfl, by rw [trc]; rfl, by rw [bridgeEnabled, trc]; rfl, by rw [trc],
      by rw [trc]; rfl, by rw [trc]; rfl, fun o ho => ?_, fun scanning => ?_, sdu ▸ dwell, ?_, ?_, ?_, by simp [t], ?_⟩
    · obtain ⟨open_none, purged⟩ := enterFaulted_gtu kind ho
      refine ⟨open_none, purged, ?_⟩
      rw [pfb, abortOpenScan_eq ho]
      simp
    · have left : isScanning (abortDwell (abortOpenScan s)).trc.state = true := by simpa using scanning
      rw [gtu, (moveTo_gtu _ _).2.2.2, left]
      rfl
    · rw [sdu, refs]
      simp
    · rw [sdu, wanted]
      simp
    · cases kind <;> exact plx
    · cases kind <;> exact enterFaulted_eq _ s

/-! ## The frame switches (R3, R14) -/

theorem switchRawChange_eq (sw : FrameSwitch) (active : Bool) (t : Traverse) :
    switchRawChange sw active t =
      if (t.switch sw).raw = active then t
      else t.withSwitch sw { raw := active, level := (t.switch sw).level, timer := some 0 } := by
  unfold switchRawChange rawChange
  cases sw <;> split <;> simp_all [Traverse.withSwitch, Traverse.switch]

/-- R14: the home switch by level and traverse state. -/
theorem homeEdge_eq (active : Bool) (state : TraverseState) (s : State) :
    s.trc.state = state →
      homeEdge active s =
        match active, state with
        | false, .homing .seekClear => { s with trc := { s.trc with state := .homing .seekHome } }
        | true, .homing .seekHome =>
          { s with trc := { s.trc with state := .homing (.toPark false), homed := true, position := 0 } }
        | _, _ => s := by
  intro at_state
  simp only [homeEdge, at_state]
  split
  next h => rfl
  next h => rfl
  next seekClear seekHome =>
    split
    next => exact absurd rfl (seekClear · rfl)
    next => exact absurd rfl (seekHome · rfl)
    next => rfl

/-- R3: the leading edge of a limit switch by traverse state. -/
theorem limitEdge_eq (state : TraverseState) (s : State) :
    s.trc.state = state →
      limitEdge s =
        match state with
        | .homing _ => motionTests (enterFaulted .homingFailed s)
        | .faulted _ =>
          raiseFor .overtravel s.trc.position s.pfb.scanNumber { s with trc := { s.trc with homed := false } }
        | _ => motionTests (enterFaulted .overtravel s) := by
  intro at_state
  unfold limitEdge
  rw [at_state]
  cases state <;> rfl

/-- R3, R14: a debounced change of a switch by switch, level and traverse state. -/
theorem switchEdge_eq (sw : FrameSwitch) (active : Bool) (state : TraverseState) (s : State) :
    s.trc.state = state →
      switchEdge sw active s =
        match sw, active, state with
        | .home, false, .homing .seekClear => { s with trc := { s.trc with state := .homing .seekHome } }
        | .home, true, .homing .seekHome =>
          { s with trc := { s.trc with state := .homing (.toPark false), homed := true, position := 0 } }
        | .home, _, _ => s
        | _, false, _ => s
        | _, true, .homing _ => motionTests (enterFaulted .homingFailed s)
        | _, true, .faulted _ =>
          raiseFor .overtravel s.trc.position s.pfb.scanNumber { s with trc := { s.trc with homed := false } }
        | _, true, _ => motionTests (enterFaulted .overtravel s) := by
  intro at_state
  cases sw with
  | home => exact (homeEdge_eq active state s at_state).trans (by split <;> simp_all)
  | backLimit | frontLimit =>
    cases active with
    | false => cases state <;> rfl
    | true => exact (limitEdge_eq state s at_state).trans (by cases state <;> rfl)

theorem switchSettled_of_running {sw : FrameSwitch} (running : (s.trc.switch sw).timer.isSome = true) :
    switchSettled sw s =
      let d := s.trc.switch sw
      let settled : State :=
        { s with trc := s.trc.withSwitch sw { raw := d.raw, level := d.raw, timer := none } }
      if d.raw = d.level then settled else switchEdge sw d.raw settled := by
  obtain ⟨n, timer⟩ := Option.isSome_iff_exists.1 running
  simp only [switchSettled, timer, beq_iff_eq, eq_comm (a := (s.trc.switch sw).level)]
  rfl

/-- Settles O31: the raw change by the level it finds, the settled level by switch, level and state. -/
theorem Certificates.frameSwitches : Obligations.FrameSwitches := by
  intro sw active s d settled
  refine ⟨congrArg Host.Outcome.next ?_, fun running => congrArg Host.Outcome.next ?_⟩
  · change { s with trc := switchRawChange sw active s.trc } = _
    rw [switchRawChange_eq]
    split <;> rfl
  · rw [switchSettled_of_running running]
    refine if_congr Iff.rfl rfl ?_
    have state : settled.trc.state = s.trc.state := by cases sw <;> rfl
    have position : settled.trc.position = s.trc.position := by cases sw <;> rfl
    rw [← position]
    exact switchEdge_eq sw d.raw _ settled state

end Sys2Proof.Machine
end

section
/-! PROOFS. The gate unit and the profile builder at a gate (02, 05): encoder edges with the comparator and the reversals, the gates closed in mid-scan and at the ends of a scan, the placement of records, the point gates and the dwell sub-gates. -/

namespace Sys2Proof.Machine

variable {s : State}

/-! ## Encoder edges (R9, R18, R34) -/

/-- R34: no armed comparator matches. -/
theorem compare_of_no_match
    (h : ∀ g c, s.gtu.geometry = some g → s.gtu.comparator = some c → matchesAt g c s.trc.position = false) :
    compare s = s := by
  unfold compare
  split
  next g c hg hc => simp [h g c hg hc]
  next => rfl

theorem compare_of_match {g : Geometry} {c : Comparator} (hg : s.gtu.geometry = some g)
    (hc : s.gtu.comparator = some c) (h : matchesAt g c s.trc.position = true) :
    compare s = engineTests (motionTests (passTests (gateMatch g c s))) := by
  simp [compare, hg, hc, h]

/-- R9: no reversal point is reached in TURN. -/
theorem reversal_of_not_reached
    (h : ∀ g a p, s.gtu.geometry = some g →
      (s.trc.state = .scanning .fwd .turn a p → s.trc.position < g.e1)
        ∧ (s.trc.state = .scanning .rev .turn a p → g.e0 < s.trc.position)) :
    reversal s = s := by
  unfold reversal
  split
  next g a p hg state => rw [if_neg (not_le.2 ((h g a p hg).1 state))]
  next g a p hg state => rw [if_neg (not_le.2 ((h g a p hg).2 state))]
  next => rfl

theorem reversal_of_front {g : Geometry} {a p : Bool} (hg : s.gtu.geometry = some g)
    (state : s.trc.state = .scanning .fwd .turn a p) (reached : g.e1 ≤ s.trc.position) :
    reversal s = reverseTo .rev g.slotCount p s := by
  simp [reversal, hg, state, reached]

theorem reversal_of_back {g : Geometry} {a p : Bool} (hg : s.gtu.geometry = some g)
    (state : s.trc.state = .scanning .rev .turn a p) (reached : s.trc.position ≤ g.e0) :
    reversal s =
      if s.sdu.wanted ∧ s.bkm.state ≠ .probing then motionTests (moveTo (.transit .park .scan) s)
      else reverseTo .fwd 0 p s := by
  simp [reversal, hg, state, reached, stdPresented]

/-- R35: the comparator's test, with the boundary written out. -/
theorem matchesAt_iff (g : Geometry) (c : Comparator) (position : Int) :
    matchesAt g c position = true ↔
      (match c.direction with
      | .fwd => ((g.W0 + c.target * (g.W1 - g.W0) / (g.Z * g.S) : Nat) : Int) ≤ position
      | .rev => position ≤ ((g.W0 + c.target * (g.W1 - g.W0) / (g.Z * g.S) : Nat) : Int)) := by
  obtain ⟨_ | _, target⟩ := c <;> exact decide_eq_true_iff

/-- Settles O32: no match and no reversal leave the state; each reversal by its point. -/
theorem encoderEdges : Obligations.EncoderEdges := by
  refine ⟨?_, ?_⟩
  · intro front s position moved matched reached not_matched not_reached
    have compared : compare moved = moved := compare_of_no_match fun g c hg hc => by
      rw [← Bool.not_eq_true, matchesAt_iff]
      exact fun at_boundary => not_matched ⟨g, c, hg, hc, at_boundary⟩
    refine congrArg Host.Outcome.next ((congrArg reversal compared).trans (reversal_of_not_reached ?_))
    refine fun g a p hg => ⟨fun state => ?_, fun state => ?_⟩
    · exact not_le.1 fun past => not_reached ⟨g, a, p, hg, .inl ⟨state, past⟩⟩
    · exact not_le.1 fun past => not_reached ⟨g, a, p, hg, .inr ⟨state, past⟩⟩
  · intro front approach park g s position moved armed hg idle
    have compared : compare moved = moved :=
      compare_of_no_match fun g c _ hc => absurd (idle.symm.trans hc) (by simp)
    refine ⟨fun state past => ?_, fun state past => ?_⟩
    · exact congrArg Host.Outcome.next ((congrArg reversal compared).trans (reversal_of_front hg state past))
    · exact congrArg Host.Outcome.next ((congrArg reversal compared).trans (reversal_of_back hg state past))

/-! ## A gate closed at a boundary (R35, R40) -/

theorem shutterFollow_geometry (s : State) : (shutterFollow s).gtu.geometry = s.gtu.geometry := by
  unfold shutterFollow shutterAgrees startAir
  dsimp only
  (repeat' split) <;> simp [capture_gtu]

theorem joinHeld_geometry (g : GateUnit) : (joinHeld g).geometry = g.geometry := by
  unfold joinHeld
  (repeat' split) <;> rfl

theorem engineTests_geometry (s : State) : (engineTests s).gtu.geometry = s.gtu.geometry := by
  unfold engineTests arbitrate arbiterChoice
  (repeat' split) <;> simp [takeEvaluation, takeChunk, takeSample, joinHeld_geometry]

/-- Out of PARKED the tests keep the traverse and the geometry. -/
theorem motionTests_keep (h : s.trc.state ≠ .parked) :
    (motionTests s).trc = s.trc ∧ (motionTests s).gtu.geometry = s.gtu.geometry := by
  have lost : (probingLostTest s).trc = s.trc ∧ (probingLostTest s).gtu = s.gtu := by
    unfold probingLostTest
    split <;> simp [returnToWaiting]
  have still : (probingLostTest s).trc.state ≠ .parked := lost.1 ▸ h
  rw [motionTests, parkTests, dwellTest_eq, if_neg (fun a => still a.1), breakTests_of_not_parked still,
    shutterFollow_geometry, lost.2]
  simp

/-- An edge at which the comparator matches, and after which the head is at no reversal point of TURN. -/
theorem encoderEdge_of_match {front : Bool} {g : Geometry} {c : Comparator} (hg : s.gtu.geometry = some g)
    (hc : s.gtu.comparator = some c) (h : matchesAt g c (countEdge front s).trc.position = true) {m : State}
    (hm : gateMatch g c (countEdge front s) = m) (geometry : m.gtu.geometry = some g)
    (parked : m.trc.state ≠ .parked)
    (turn : ∀ a p, (m.trc.state = .scanning .fwd .turn a p → m.trc.position < g.e1)
      ∧ (m.trc.state = .scanning .rev .turn a p → g.e0 < m.trc.position)) :
    exec (.encoderEdge front) s = .next (engineTests (motionTests (passTests m))) := by
  have left : (passTests m).trc.state ≠ .parked := by simpa using parked
  obtain ⟨trc, same⟩ := motionTests_keep left
  have compared := compare_of_match (s := countEdge front s) hg hc h
  rw [hm] at compared
  refine congrArg Host.Outcome.next ((congrArg reversal compared).trans (reversal_of_not_reached ?_))
  intro g' a p hg'
  have : g = g' := by
    rw [engineTests_geometry, same, (passTests_frame m).2.1, geometry] at hg'
    exact Option.some.inj hg'
  subst this
  simpa [trc] using turn a p

theorem countEdge_eq (front : Bool) (s : State) :
    countEdge front s =
      { s with
        trc := { s.trc with position := if front then s.trc.position + 1 else s.trc.position - 1 } } := rfl

/-- R35: between the first and the last boundary a match closes the gate of the slot just crossed. -/
theorem closeGate_eq (c : Comparator) {o : OpenScan} (h : s.gtu.openScan = some o) :
    closeGate c s =
      match o.kind with
      | .normal =>
        place (formRecord .scan o.number (some (closingSlot c.direction c.target)) (some c.direction)
          (gateReading s) s) (capture s)
      | .probe =>
        place (formRecord .probe o.number (some (closingSlot c.direction c.target)) (some c.direction)
          (gateReading s) s) (capture s)
      | .skipped => capture s := by
  obtain ⟨number, kind⟩ := o
  cases kind <;> simp [closeGate, h, recordKind]

theorem place_geometry (r : SampleRecord) (s : State) : (place r s).gtu.geometry = s.gtu.geometry := by
  unfold place overrun raiseAlarm modEntry
  (repeat' split) <;> simp

/-- Settles O33: the gate closes, the target moves on, and no reversal is near in mid-window. -/
theorem boundaryMatch : Obligations.BoundaryMatch := by
  intro front approach park d g target number kind s position b hg state hc ho first last crossed time full c record
    captured placed
  have between : gateMatch g { direction := d, target := target } (countEdge front s) =
      moveTarget { direction := d, target := target }
        (closeGate { direction := d, target := target } (countEdge front s)) := by
    cases d <;> simp [gateMatch, firstBoundary, lastBoundary, first, last, Geometry.slotCount]
  have closed : closeGate { direction := d, target := target } (countEdge front s) = placed := by
    rw [closeGate_eq (s := countEdge front s) _ ho]
    cases kind <;> cases d <;> rfl
  have trc : placed.trc = captured.trc := by cases kind <;> simp [placed]
  have geometry : placed.gtu.geometry = s.gtu.geometry := by
    cases kind
    case skipped => rfl
    all_goals exact place_geometry _ _
  rw [closed] at between
  refine (encoderEdge_of_match hg hc ((matchesAt_iff ..).2 ?_) between ?_ ?_ ?_).trans ?_
  · cases d <;> exact crossed
  · exact geometry.trans hg
  · simp [trc, captured, state]
  · simp [trc, captured, state]
  · cases d <;> rfl

/-! ## Notices and the beginning of a pass (R45, R95, R97) -/

theorem recordsRemain_eq (g : GateUnit) (scan : Nat) :
    recordsRemain g scan = !(g.queue ++ g.held.toList).all fun r => r.kind == .point || r.number != scan := by
  rw [recordsRemain, List.not_all_eq_any_not]
  congr 1
  funext r
  rw [← not_ofScans_singleton, Bool.not_not]

/-- R45: the notice, as one equation of the context. -/
theorem gateNotice_eq (g : GateUnit) (c : ScanContext) :
    (if c.stage == .ended && !recordsRemain g c.number then { c with gateNotice := true } else c) =
      { c with
        gateNotice :=
          c.gateNotice
            || (c.stage == .ended
              && (g.queue ++ g.held.toList).all fun r => r.kind == .point || r.number != c.number) } := by
  rw [recordsRemain_eq, Bool.not_not]
  split
  next h => rw [h, Bool.or_true]
  next h => rw [Bool.eq_false_iff.2 h, Bool.or_false]

theorem jobOutstanding_eq (s : State) (scan : Nat) :
    (!jobOutstanding s scan) =
      match s.cve.job with
      | some (.sample j) => j.record.kind == .point || j.record.number != scan
      | _ => true := by
  unfold jobOutstanding
  cases s.cve.job with
  | none => rfl
  | some job =>
    cases job with
    | sample j => exact not_ofScans_singleton scan j.record
    | chunk k => rfl
    | evaluation e => rfl

theorem beginPass_of_pass (h : s.pfb.pass.isSome ∨ ∀ c ∈ s.pfb.contexts, c.stage ≠ .complete) :
    beginPass s = s := by
  unfold beginPass
  split
  next c pass found =>
    obtain running | none_complete := h
    · simp [pass] at running
    · have := none_complete _ (List.mem_of_find?_eq_some found)
      simpa [this] using List.find?_some found
  next => rfl

theorem beginPass_of_complete {before rest : List ScanContext} {c : ScanContext} (pass : s.pfb.pass = none)
    (contexts : s.pfb.contexts = before ++ c :: rest) (complete : c.stage = .complete)
    (first : ∀ x ∈ before, x.stage ≠ .complete) :
    beginPass s =
      { s with
        pfb :=
          { s.pfb with
            contexts := s.pfb.contexts.map fun x => if x.number = c.number then { x with stage := .inPass } else x
            pass := some (.fresh c.number) } } := by
  have found : s.pfb.contexts.find? (fun c => c.stage == .complete) = some c := by
    rw [contexts, List.find?_append, List.find?_eq_none.2 (by simpa using first)]
    simp [complete]
  simp [beginPass, pass, found, State.modPfb]

/-! ## Placing a record (R41 to R43) -/

theorem place_of_room (r : SampleRecord) (h : s.gtu.queue.length < 8) :
    place r s = { s with gtu := { s.gtu with queue := s.gtu.queue ++ [r] } } := by
  simp [place, h, Config.sampleQueueDepth, State.modGtu]

theorem place_of_full (r : SampleRecord) (h : 8 ≤ s.gtu.queue.length) (free : s.gtu.held = none) :
    place r s = { s with gtu := { s.gtu with held := some r } } := by
  simp [place, Config.sampleQueueDepth, Nat.not_lt.2 h, free, State.modGtu]

theorem place_of_overrun (r : SampleRecord) {old : SampleRecord} (h : 8 ≤ s.gtu.queue.length)
    (held : s.gtu.held = some old) :
    place r s = overrun old { s with gtu := { s.gtu with held := some r } } := by
  simp [place, Config.sampleQueueDepth, Nat.not_lt.2 h, held, State.modGtu]

/-- R43: a displaced record of a scan: its zone is reported, its slot entry acted on. -/
theorem overrun_of_slot {old : SampleRecord} {slot : Nat} {g : Geometry} (scan : old.kind ≠ .point)
    (hslot : old.slot = some slot) (hg : s.gtu.geometry = some g) :
    overrun old s =
      raiseFor .sampleOverrun ((slot / g.S : Nat) : Int) old.number
        (modEntry old.number slot (fun e => { e with missed := true }) s) := by
  unfold overrun
  cases hk : old.kind with
  | point => exact absurd hk scan
  | scan | probe => simp [hslot, hg]

/-- R94: one entry of one accumulator, where the scan's own takes a new value at a slot. -/
theorem modEntry_getElem? {scan slot : Nat} {f : SlotEntry → SlotEntry} {c : ScanContext} {a : AccId}
    (hc : contextOf s scan = some c) (ha : c.accumulator = some a) (b : AccId) (i : Nat) :
    ((modEntry scan slot f s).pfb.entries b)[i]? =
      ((s.pfb.entries b)[i]?).map fun e => if b = a ∧ i = slot then f e else e := by
  rw [modEntry_entries scan slot f s a (by rw [hc]; exact ha) b]
  by_cases hb : b = a
  · simp only [hb, if_true, List.getElem?_modify, eq_comm (a := slot), true_and]
    cases (s.pfb.entries a)[i]? with
    | none => simp
    | some e => by_cases hi : i = slot <;> simp [hi]
  · simp [hb]

theorem modEntry_contexts (scan slot : Nat) (f : SlotEntry → SlotEntry) (s : State) :
    (modEntry scan slot f s).pfb.contexts = s.pfb.contexts := by
  unfold modEntry
  split
  next => rfl
  next a _ => cases a <;> rfl

/-- Settles O37: the pass tests as one map over the contexts, and a placement by the room it finds. -/
theorem recordPlacement : Obligations.RecordPlacement := by
  refine ⟨?_, ?_⟩
  · intro s gone idle noticed completed kept
    have tested : completeScans (gateNotices s) = kept := by
      simp only [completeScans, gateNotices, State.modPfb, gateNotice_eq, List.map_map, kept, completed]
      congr 2
      refine List.map_congr_left fun c _ => ?_
      rw [Function.comp, jobOutstanding_eq]
      simp only [Bool.and_eq_true, beq_iff_eq, and_assoc]
      rfl
    refine ⟨fun h => ?_, fun before c rest pass split complete first => ?_, ?_⟩
    · rw [passTests, tested]
      exact beginPass_of_pass h
    · rw [passTests, tested]
      exact beginPass_of_complete (s := kept) pass split complete first
    · exact congrArg (fun l => { arbitrate s with pfb := { (arbitrate s).pfb with contexts := l } })
        (List.map_congr_left fun c _ => gateNotice_eq (arbitrate s).gtu c)
  · intro r s
    refine ⟨place_of_room r, place_of_full r, fun old full held point => ?_,
      fun old slot c a g full held scan hslot hc ha hg => ?_⟩
    · rw [place_of_overrun r full held]
      simp [overrun, point, raiseAlarm]
    · intro t
      have placed : t = _ := (place_of_overrun r full held).trans (overrun_of_slot scan hslot hg)
      rw [placed]
      refine ⟨by simp, by simp [raiseFor], by simp [modEntry_contexts], fun b j => ?_, by simp⟩
      exact (congrArg (fun p : ProfileBuilder => (p.entries b)[j]?) (raiseFor_frame ..).2.2.2.2.1).trans
        (modEntry_getElem? (s := { s with gtu := { s.gtu with held := some r } }) hc ha b j)

/-! ## Pulses, point gates and dwell sub-gates (R38, R46, R47) -/

theorem countPulse_eq {n : Nat} (h : n ≤ 16777215) : countPulse n = min 16777215 (n + 1) := by
  unfold countPulse Config.counterMax
  split <;> omega

/-- Settles O36: a pulse by its input, an expiry of the point timer in POINT. -/
theorem pulsesAndPointGates : Obligations.PulsesAndPointGates := by
  refine ⟨fun input s bwc mac mrc clc => ?_, fun position period s state running below => ?_⟩
  · refine ⟨_, rfl, ?_⟩
    cases input <;> simp [countPulse_eq, bwc, mac, mrc, clc]
  · intro time c full record
    obtain ⟨n, timer⟩ := Option.isSome_iff_exists.1 running
    have next : (s.gtu.pointSequence + 1) % 4294967296 = s.gtu.pointSequence + 1 := by omega
    have expired : Machine.pointTimerExpiry s = engineTests (passTests (closePointGate period s)) := by
      simp [Machine.pointTimerExpiry, state, timer]
    have closed : closePointGate period s =
        place record
          { s with
            gtu :=
              { s.gtu with
                gateTimer := 0, counters := { bwc := 0, mac := 0, mrc := 0, clc := 0 }
                unconfirmed := !s.sdu.confirm.level
                pointSequence := s.gtu.pointSequence + 1, pointTimer := some 0 } } := by
      simp only [closePointGate, next]
      rfl
    exact congrArg Host.Outcome.next (closed ▸ expired)

theorem darkSubGate_eq (limit time : Nat) (c : Counts) (d : DwellRecord) (dark : d.step = .dark) :
    darkSubGate limit time c d =
      { d with
        dark := addSubGate time c d.dark, satBw := d.satBw || c.bwc == 16777215
        taken := if limit ≤ d.taken + 1 then 0 else d.taken + 1
        step := if limit ≤ d.taken + 1 then .opening else .dark } := by
  simp only [darkSubGate, Config.counterMax]
  split
  next => rfl
  next => rw [dark]

theorem airSubGate_eq (limit time : Nat) (c : Counts) (d : DwellRecord) (air : d.step = .air) :
    airSubGate limit time c d =
      { d with
        air := addSubGate time c d.air, taken := d.taken + 1
        satBw := d.satBw || c.bwc == 16777215, satMa := d.satMa || c.mac == 16777215
        satMr := d.satMr || c.mrc == 16777215, satCl := d.satCl || c.clc == 16777215
        step := if limit ≤ d.taken + 1 then .evaluating else .air } := by
  simp only [airSubGate, Config.counterMax]
  split
  next => rfl
  next => rw [air]

/-- Settles O38: the phase that runs takes the sub-gate, and its last one ends the phase. -/
theorem dwellSubGates : Obligations.DwellSubGates := by
  intro d s hd running phase c time full add last after
  obtain ⟨n, timer⟩ := Option.isSome_iff_exists.1 running
  have expired : Machine.subGateExpiry s = engineTests (shutterFollow (closeSubGate d s)) := by
    simp [Machine.subGateExpiry, hd, timer]
  have taken : dwellAfter s.sdu.settings.phaseLength (timedReading Config.subGateUs s) s.gtu.counters d = after := by
    obtain dark | air := phase
    · simp only [dwellAfter, dark, after, if_true, darkSubGate_eq _ _ _ d dark, last, decide_eq_true_eq]
      rfl
    · simp only [dwellAfter, air, after, airSubGate_eq _ _ _ d air, last, decide_eq_true_eq]
      rfl
  have step : after.step =
      if d.step = .dark then if last then .opening else .dark else if last then .evaluating else .air := by
    simp only [after]
    split <;> rfl
  have posted : postedAfter after s.sdu.posted =
      if d.step = .air ∧ last then some (after.dark, after.air) else s.sdu.posted := by
    unfold postedAfter
    rw [step]
    obtain dark | air := phase
    · cases last <;> simp [dark]
    · cases last <;> simp [air]
  have timer_after : subGateAfter after.step = if last then none else some 0 := by
    rw [step]
    cases last <;> split <;> rfl
  have closed : closeSubGate d s =
      { s with
        gtu :=
          { s.gtu with
            gateTimer := 0, counters := { bwc := 0, mac := 0, mrc := 0, clc := 0 }
            unconfirmed := !s.sdu.confirm.level
            subGateTimer := if last then none else some 0 }
        sdu :=
          { s.sdu with
            dwell := some after
            posted := if d.step = .air ∧ last then some (after.dark, after.air) else s.sdu.posted } } := by
    simp only [closeSubGate, taken, ← posted, ← timer_after]
    rfl
  exact congrArg Host.Outcome.next (closed ▸ expired)

/-! ## The scan start (R36, R81, R90, R92, R139) -/

/-- R81, R90: the state in which a scan that starts has taken its number, its slot and its pin. -/
def numberedScan (s : State) : State :=
  { s with
    pfb :=
      { s.pfb with
        scanNumber := nextScanNumber s.pfb.scanNumber, starts := s.pfb.starts + 1
        summaries := if s.pfb.scanNumber = 4294967295 then [] else s.pfb.summaries
        reseed :=
          if s.grs.staged.isSome then
            (setReseed { scan := nextScanNumber s.pfb.scanNumber, order := s.pfb.starts + 1 } s).pfb.reseed
          else s.pfb.reseed }
    grs :=
      { s.grs with
        active := s.grs.staged.orElse fun _ => s.grs.active, staged := none
        pins :=
          s.grs.pins
            ++ [{ scan := nextScanNumber s.pfb.scanNumber
                  slot := s.grs.staged.orElse fun _ => s.grs.active }] } }

theorem addPin_takeStaged_countScan (s : State) : addPin (takeStaged (countScan s)) = numberedScan s := by
  cases staged : s.grs.staged <;>
    simp [addPin, takeStaged, countScan, staged, State.modGrs, State.modPfb, thisMark, setReseed,
      Config.scanNumberMax, numberedScan]

theorem addContext_clearAcc (kind : ScanKind) (d : Direction) (acc : Option AccId) (s : State) :
    addContext kind d acc (clearAcc acc s) =
      { s with
        pfb :=
          { (clearAcc acc s).pfb with
            contexts :=
              s.pfb.contexts
                ++ [{ number := s.pfb.scanNumber, order := s.pfb.starts, kind := kind, direction := d
                      slot := s.grs.active, accumulator := acc, stage := .gating, gateNotice := false }] } } := by
  rcases acc with _ | _ | _ <;> rfl

theorem raiseIf_eq (b : Bool) (kind : AlarmKind) (detail : Int) (scan : Nat) (s : State) :
    (if b then raiseFor kind detail scan s else s) =
      { s with plx := if b then (raiseFor kind detail scan s).plx else s.plx } := by
  cases b <;> simp [raiseFor, State.modPlx]

/-- What a scan start leaves, block by block. -/
theorem profileScanStart_eq (d : Direction) {number : Nat} {active : Option Nat} {kind : ScanKind}
    {acc : Option AccId} (hnumber : nextScanNumber s.pfb.scanNumber = number)
    (hactive : (s.grs.staged.orElse fun _ => s.grs.active) = active) (hkind : chooseKind s = kind)
    (hacc : chooseAcc kind s = acc) :
    profileScanStart d s =
      { numberedScan s with
        pfb :=
          { (clearAcc acc (numberedScan s)).pfb with
            contexts :=
              s.pfb.contexts
                ++ [{ number := number, order := s.pfb.starts + 1, kind := kind, direction := d
                      slot := active, accumulator := acc, stage := .gating, gateNotice := false }] }
        gtu := { s.gtu with openScan := some { number := number, kind := kind } }
        plx :=
          if accHeld s .acc0 && accHeld s .acc1 then (raiseFor .scanSkipped number number s).plx else s.plx
        bkm := (setUpWatch number kind active s).bkm } := by
  subst hnumber hactive hkind hacc
  have kind : chooseKind (numberedScan s) = chooseKind s := rfl
  have acc (k : ScanKind) : chooseAcc k (numberedScan s) = chooseAcc k s := rfl
  have held (a : AccId) : accHeld (numberedScan s) a = accHeld s a := rfl
  have number (a : Option AccId) :
      (clearAcc a (numberedScan s)).pfb.scanNumber = nextScanNumber s.pfb.scanNumber := by
    rcases a with _ | _ | _ <;> rfl
  have edges (a : Option AccId) : (clearAcc a (numberedScan s)).pfb.publishedEdges = s.pfb.publishedEdges := by
    rcases a with _ | _ | _ <;> rfl
  simp only [profileScanStart, addPin_takeStaged_countScan, kind, acc, held, addContext_clearAcc, raiseIf_eq, number]
  simp only [setUpWatch, State.modBkm, edges, State.modGtu]
  rfl

/-- What clearing a free accumulator leaves of the profile builder. -/
theorem clearAcc_pfb (acc : Option AccId) (s : State) :
    let p := (clearAcc acc s).pfb
    p.scanNumber = s.pfb.scanNumber ∧ p.summaries = s.pfb.summaries ∧ p.reseed = s.pfb.reseed
      ∧ ∀ a g, acc = some a → s.gtu.geometry = some g → p.entries a = List.replicate g.slotCount .cleared := by
  refine ⟨?_, ?_, ?_, ?_⟩
  iterate 3 rcases acc with _ | _ | _ <;> rfl
  rintro a g rfl hg
  simp only [clearAcc, hg]
  cases a <;> rfl

/-- R33: the last boundary is W1. -/
theorem boundary_last {g : Geometry} (h : g.inRange = true) : g.boundary g.slotCount = g.W1 := by
  obtain ⟨_, _, ⟨order, _⟩, _, ⟨zones, _⟩, ⟨slots, _⟩, _⟩ := (geometry_inRange_iff g).1 h
  have positive : 0 < g.slotCount := Nat.mul_pos (by omega) (by omega)
  rw [Geometry.boundary, Nat.mul_div_cancel_left _ positive]
  omega

theorem boundary_zero (g : Geometry) : g.boundary 0 = g.W0 := by simp [Geometry.boundary]

/-- A move within SCANNING leaves everything but the traverse. -/
theorem moveTo_of_scanning {new : TraverseState} (old : isScanning s.trc.state = true) (scanning : isScanning new = true) :
    moveTo new s = { s with trc := enterState new s.trc } := by
  have point : isPoint s.trc.state = false := by
    cases h : s.trc.state <;> simp_all [isScanning, isPoint]
  simp [moveTo, old, scanning, point, State.modTrc]

theorem traverseScanStart_eq {d : Direction} {phase : ScanPhase} {approach park : Bool}
    (state : s.trc.state = .scanning d phase approach park) :
    traverseScanStart s = { s with trc := enterState (.scanning d .inWindow false park) s.trc } := by
  rw [traverseScanStart, state]
  exact moveTo_of_scanning (by rw [state]; rfl) rfl

/-- R36: the state in which the scan start reaches the profile builder. -/
def enteredWindow (d : Direction) (park : Bool) (s : State) : State :=
  { capture s with trc := enterState (.scanning d .inWindow false park) s.trc }

theorem gateScanStart_eq {d : Direction} {phase : ScanPhase} {approach park : Bool} (target : Nat)
    (state : s.trc.state = .scanning d phase approach park) {number : Nat} {active : Option Nat}
    {kind : ScanKind} {acc : Option AccId} (hnumber : nextScanNumber s.pfb.scanNumber = number)
    (hactive : (s.grs.staged.orElse fun _ => s.grs.active) = active) (hkind : chooseKind s = kind)
    (hacc : chooseAcc kind s = acc) :
    gateScanStart { direction := d, target := target } s =
      { numberedScan (enteredWindow d park s) with
        pfb :=
          { (clearAcc acc (numberedScan (enteredWindow d park s))).pfb with
            contexts :=
              s.pfb.contexts
                ++ [{ number := number, order := s.pfb.starts + 1, kind := kind, direction := d
                      slot := active, accumulator := acc, stage := .gating, gateNotice := false }] }
        gtu :=
          { (capture s).gtu with
            openScan := some { number := number, kind := kind }
            comparator := some { direction := d, target := nextTarget d target } }
        plx :=
          if accHeld s .acc0 && accHeld s .acc1 then (raiseFor .scanSkipped number number s).plx else s.plx
        bkm := (setUpWatch number kind active s).bkm } := by
  rw [gateScanStart, traverseScanStart_eq (s := capture s) state]
  exact congrArg (moveTarget { direction := d, target := target })
    (profileScanStart_eq (s := enteredWindow d park s) d hnumber hactive hkind hacc)

/-- R139: the watch of a scan that is not NORMAL, or without published edges. -/
theorem setUpWatch_of_unwatched (scan : Nat) (kind : ScanKind) (slot : Option Nat)
    (h : kind ≠ .normal ∨ s.pfb.publishedEdges = none) : (setUpWatch scan kind slot s).bkm.watch = .off := by
  simp only [setUpWatch, State.modBkm]
  split
  next edges => simp_all
  next => rfl

theorem setUpWatch_of_watched (scan : Nat) {slot : Option Nat} {first last : Nat} {grade : GradeRecord}
    (clear : s.bkm.state = .clear) (edges : s.pfb.publishedEdges = some (first, last))
    (hg : gradeAt s slot = some grade) :
    (setUpWatch scan .normal slot s).bkm.watch =
      .scan scan
        (if first + 2 * grade.edgeGuard ≤ last then
          some (first + grade.edgeGuard, last - grade.edgeGuard)
        else none) := by
  simp only [setUpWatch, State.modBkm, clear, edges, hg, watchRegion]
  rfl

/-- Settles O34: the head in the window, then the scan start of the profile builder, then the target. -/
theorem Certificates.scanStart : Obligations.ScanStart := by
  intro front approach park phase d g s position N first hg state ranged hc crossed
  have at_first : gateMatch g { direction := d, target := first } (countEdge front s) =
      gateScanStart { direction := d, target := first } (countEdge front s) := by
    cases d <;> simp [gateMatch, firstBoundary, first, Geometry.slotCount, N]
  have matched : matchesAt g { direction := d, target := first } position = true := by
    cases d with
    | fwd => simpa [matchesAt, first, boundary_zero] using crossed
    | rev => exact decide_eq_true ((congrArg (fun b : Nat => position ≤ (b : Int)) (boundary_last ranged)).mpr crossed)
  refine ⟨gateScanStart { direction := d, target := first } (countEdge front s), ?_, ?_⟩
  · refine encoderEdge_of_match hg hc matched at_first ?_ ?_ ?_
    all_goals rw [gateScanStart_eq (s := countEdge front s) first state rfl rfl rfl rfl]
    · exact hg
    · simp [enteredWindow, enterState, numberedScan]
    · simp [enteredWindow, enterState, numberedScan]
  · intro number active held both kind acc
    have hnumber : nextScanNumber s.pfb.scanNumber = number := by
      simp [nextScanNumber, Config.scanNumberMax, number]
    have hkind : chooseKind (countEdge front s) = kind := by
      simp only [chooseKind, kind]
      refine if_congr Iff.rfl rfl ?_
      rw [show (countEdge front s).bkm = s.bkm from rfl]
      cases s.bkm.state <;> rfl
    have hacc : chooseAcc kind (countEdge front s) = acc := by
      simp only [acc, chooseAcc]
      cases kind <;> rfl
    have clear : kind = .normal → s.bkm.state = .clear := by
      intro normal
      simp only [kind] at normal
      split at normal
      · cases normal
      · split at normal
        next h => exact h
        all_goals cases normal
    obtain ⟨number_kept, summaries, reseed, cleared⟩ :=
      clearAcc_pfb acc (numberedScan (enteredWindow d park (countEdge front s)))
    rw [gateScanStart_eq (s := countEdge front s) first state hnumber (active := active) rfl hkind hacc]
    refine ⟨rfl, rfl, number_kept.trans hnumber, rfl, rfl, ?_, rfl, rfl, fun a ha => cleared a g ha hg, summaries,
      reseed.trans ?_, rfl, ?_, rfl, rfl, rfl, rfl, rfl, setUpWatch_of_unwatched _ _ _, fun lo hi grade normal edges hgrade => ?_, rfl, ?_, rfl, rfl, rfl⟩
    · exact hnumber ▸ rfl
    · exact hnumber ▸ rfl
    · cases d <;> rfl
    · exact (congrArg (fun k => (setUpWatch number k active (countEdge front s)).bkm.watch) normal).trans
        (setUpWatch_of_watched (s := countEdge front s) number (clear normal) edges hgrade)
    · rfl

/-! ## The scan end (R17, R37, R93, R95) -/

/-- What a placement leaves of the gate unit. -/
theorem place_gtu (r : SampleRecord) (s : State) :
    (place r s).gtu = { s.gtu with queue := (place r s).gtu.queue, held := (place r s).gtu.held } := by
  unfold place overrun raiseAlarm
  (repeat' split) <;> simp

theorem place_contexts (r : SampleRecord) (s : State) : (place r s).pfb.contexts = s.pfb.contexts := by
  unfold place overrun raiseAlarm
  (repeat' split) <;> simp [modEntry_contexts]

/-- R37: the traverse state that the scan end brings. -/
def afterWindow (d : Direction) (approach park : Bool) : TraverseState :=
  if park then .transit .park .noAction else .scanning d .turn approach false

theorem traverseScanEnd_eq {d : Direction} {phase : ScanPhase} {approach park : Bool}
    (state : s.trc.state = .scanning d phase approach park) (idle : s.gtu.comparator = none) :
    traverseScanEnd s = { s with trc := enterState (afterWindow d approach park) s.trc } := by
  have moved (new : TraverseState) : moveTo new s = { s with trc := enterState new s.trc } := by
    simp [moveTo_eq, idle, state, isPoint]
    rw [← idle]
  cases park <;> simp [traverseScanEnd, state, moved, afterWindow]

theorem contextOf_none_iff (s : State) (scan : Nat) :
    contextOf s scan = none ↔ ∀ c ∈ s.pfb.contexts, c.number ≠ scan := by
  simp [contextOf]

theorem profileScanEnd_of_skipped {scan : Nat} (held : ∃ c ∈ s.pfb.contexts, c.number = scan)
    (skipped : ∀ c ∈ s.pfb.contexts, c.number = scan → c.kind = .skipped) :
    profileScanEnd scan s = removeScans [scan] s := by
  unfold profileScanEnd
  split
  next none_held =>
    obtain ⟨c, mem, number⟩ := held
    exact absurd number ((contextOf_none_iff s scan).1 none_held c mem)
  next c found =>
    have kind := skipped c (List.mem_of_find?_eq_some found) (by simpa using List.find?_some found)
    simp [kind]

theorem profileScanEnd_of_ended {scan : Nat} (counted : ∀ c ∈ s.pfb.contexts, c.number = scan → c.kind ≠ .skipped) :
    profileScanEnd scan s =
      { s with
        pfb :=
          { s.pfb with
            contexts := s.pfb.contexts.map fun c => if c.number = scan then { c with stage := .ended } else c } } := by
  unfold profileScanEnd
  split
  next none_held =>
    have same : (s.pfb.contexts.map fun c => if c.number = scan then { c with stage := .ended } else c)
        = s.pfb.contexts := by
      rw [List.map_congr_left fun c mem => if_neg ((contextOf_none_iff s scan).1 none_held c mem), List.map_id']
    rw [same]
  next c found =>
    have kind := counted c (List.mem_of_find?_eq_some found) (by simpa using List.find?_some found)
    simp [kind, State.modPfb]

/-- R37: the scan end: the gate, the comparator and the open scan, the traverse, then the context. -/
theorem gateScanEnd_eq {d : Direction} {phase : ScanPhase} {approach park : Bool} {o : OpenScan} (c : Comparator)
    (state : s.trc.state = .scanning d phase approach park) (ho : s.gtu.openScan = some o) :
    gateScanEnd c s =
      profileScanEnd o.number
        { closeGate c s with
          trc := enterState (afterWindow d approach park) s.trc
          gtu := { (closeGate c s).gtu with comparator := none, openScan := none } } := by
  have same : (closeGate c s).trc = s.trc := by simp
  simp only [gateScanEnd, ho]
  rw [traverseScanEnd_eq (d := d) (phase := phase) (approach := approach) (park := park) (by simpa using state) rfl]
  simp [State.modGtu]

theorem matches_last {g : Geometry} {d : Direction} {position : Int} (ranged : g.inRange = true)
    (crossed : match d with
      | .fwd => (g.W1 : Int) ≤ position
      | .rev => position ≤ (g.W0 : Int)) :
    matchesAt g { direction := d, target := lastBoundary g d } position = true := by
  cases d with
  | fwd => exact decide_eq_true ((congrArg (fun b : Nat => (b : Int) ≤ position) (boundary_last ranged)).mpr crossed)
  | rev => exact decide_eq_true ((congrArg (fun b : Nat => position ≤ (b : Int)) (boundary_zero g)).mpr crossed)

theorem gateMatch_last {g : Geometry} (d : Direction) (ranged : g.inRange = true) (s : State) :
    gateMatch g { direction := d, target := lastBoundary g d } s =
      gateScanEnd { direction := d, target := lastBoundary g d } s := by
  obtain ⟨_, _, _, _, ⟨zones, _⟩, ⟨slots, _⟩, _⟩ := (geometry_inRange_iff g).1 ranged
  have positive : g.slotCount ≠ 0 := (Nat.mul_pos (by omega) (by omega)).ne'
  cases d <;> simp [gateMatch, firstBoundary, lastBoundary, positive, positive.symm]

theorem closeGate_of_counted (c : Comparator) {o : OpenScan} (h : s.gtu.openScan = some o)
    (counted : o.kind ≠ .skipped) :
    closeGate c s =
      place (formRecord (if o.kind = .probe then .probe else .scan) o.number (some (closingSlot c.direction c.target))
        (some c.direction) (gateReading s) s) (capture s) := by
  rw [closeGate_eq c h]
  obtain ⟨number, _ | _ | _⟩ := o
  case skipped => exact absurd rfl counted
  all_goals rfl

theorem closeGate_of_skipped (c : Comparator) {o : OpenScan} (h : s.gtu.openScan = some o)
    (skipped : o.kind = .skipped) : closeGate c s = capture s := by
  rw [closeGate_eq c h, skipped]

/-- A gate closed with a record or without one leaves the timer, the counters and the geometry alike. -/
theorem closeGate_gtu (c : Comparator) (s : State) :
    (closeGate c s).gtu.gateTimer = 0 ∧ (closeGate c s).gtu.counters = .zero
      ∧ (closeGate c s).gtu.geometry = s.gtu.geometry := by
  unfold closeGate
  (repeat' split)
  · exact ⟨rfl, rfl, rfl⟩
  · exact ⟨rfl, rfl, rfl⟩
  · rw [place_gtu]
    exact ⟨rfl, rfl, rfl⟩

theorem closeGate_contexts (c : Comparator) (s : State) : (closeGate c s).pfb.contexts = s.pfb.contexts := by
  unfold closeGate
  (repeat' split) <;> simp [place_contexts]

theorem gateScanEnd_of_skipped {d : Direction} {phase : ScanPhase} {approach park : Bool} {o : OpenScan}
    (c : Comparator) (state : s.trc.state = .scanning d phase approach park) (ho : s.gtu.openScan = some o)
    (held : ∃ x ∈ s.pfb.contexts, x.number = o.number)
    (skipped : ∀ x ∈ s.pfb.contexts, x.number = o.number → x.kind = .skipped) :
    (gateScanEnd c s).pfb.contexts = s.pfb.contexts.filter (fun x => x.number != o.number)
      ∧ (gateScanEnd c s).grs.pins = s.grs.pins.filter fun p => p.scan != o.number := by
  have contexts := closeGate_contexts c s
  have grs : (closeGate c s).grs = s.grs := by simp
  rw [(gateScanEnd_eq c state ho).trans
    (profileScanEnd_of_skipped (by simpa only [contexts] using held) (by simpa only [contexts] using skipped))]
  simp only [removeScans_blocks, not_contains_singleton, contexts, grs, and_self]

theorem gateScanEnd_of_counted {d : Direction} {phase : ScanPhase} {approach park : Bool} {o : OpenScan}
    (c : Comparator) (state : s.trc.state = .scanning d phase approach park) (ho : s.gtu.openScan = some o)
    (counted : ∀ x ∈ s.pfb.contexts, x.number = o.number → x.kind ≠ .skipped) :
    gateScanEnd c s =
      { closeGate c s with
        trc := enterState (afterWindow d approach park) s.trc
        gtu := { (closeGate c s).gtu with comparator := none, openScan := none }
        pfb :=
          { (closeGate c s).pfb with
            contexts :=
              s.pfb.contexts.map fun x => if x.number = o.number then { x with stage := .ended } else x } } := by
  have contexts := closeGate_contexts c s
  refine (gateScanEnd_eq c state ho).trans
    ((profileScanEnd_of_ended (by simpa only [contexts] using counted)).trans ?_)
  simp only [contexts]

/-- Settles O35: the last gate, then the traverse and the context, by the kind of the scan. -/
theorem Certificates.scanEnd : Obligations.ScanEnd := by
  intro front approach park d g o s position N hg state ranged hc ho crossed
  let c : Comparator := { direction := d, target := lastBoundary g d }
  have hlast : s.gtu.comparator = some c := hc.trans (by cases d <;> rfl)
  have ended := gateScanEnd_eq (s := countEdge front s) c state ho
  have trc : (gateScanEnd c (countEdge front s)).trc =
      enterState (afterWindow d approach park) (countEdge front s).trc := by rw [ended]; simp
  have gtu : (gateScanEnd c (countEdge front s)).gtu =
      { (closeGate c (countEdge front s)).gtu with comparator := none, openScan := none } := by rw [ended]; simp
  obtain ⟨timer, counters, geometry⟩ := closeGate_gtu c (countEdge front s)
  refine ⟨_, encoderEdge_of_match hg hlast (matches_last ranged ?_) (gateMatch_last d ranged _) ?_ ?_ ?_, ?_⟩
  · cases d <;> exact crossed.1
  · exact (congrArg GateUnit.geometry gtu).trans (geometry.trans hg)
  · rw [trc]
    cases park <;> simp [afterWindow, enterState]
  · intro a p
    rw [trc]
    cases park <;> cases d <;> simp [afterWindow, enterState, countEdge_eq]
    · exact fun _ _ => crossed.2
    · exact fun _ _ => crossed.2
  · refine ⟨by rw [trc]; rfl, by rw [gtu], by rw [gtu], by rw [gtu]; exact timer, by rw [gtu]; exact counters,
      fun skipped => ?_, fun counted room => ?_, fun counted contexts => ?_⟩
    · have closed := closeGate_of_skipped (s := countEdge front s) c ho skipped
      refine ⟨by rw [gtu, closed]; rfl, by rw [gtu, closed]; rfl, fun held kinds => ?_⟩
      exact gateScanEnd_of_skipped (s := countEdge front s) c state ho held kinds
    · have closed := closeGate_of_counted (s := countEdge front s) c ho counted
      have queued := place_of_room (s := capture (countEdge front s))
        (formRecord (if o.kind = .probe then .probe else .scan) o.number (some (closingSlot d (lastBoundary g d)))
          (some d) (gateReading (countEdge front s)) (countEdge front s)) room
      refine ⟨⟨_, by rw [gtu, closed, queued]; rfl, rfl, ?_, rfl, rfl⟩, fun contexts => ?_⟩
      · cases d <;> rfl
      · rw [gateScanEnd_of_counted (s := countEdge front s) c state ho contexts]
        exact ⟨by simp [countEdge_eq], rfl⟩
    · intro time full n record placed
      have closed : closeGate c (countEdge front s) = placed := by
        rw [closeGate_of_counted (s := countEdge front s) c ho counted]
        cases d <;> rfl
      have kept : placed.trc = (countEdge front s).trc := by rw [← closed]; simp
      rw [gateScanEnd_of_counted (s := countEdge front s) c state ho contexts, closed, moveTo_trc, kept]
      rfl

end Sys2Proof.Machine
end

section
/-! PROOFS. The engine (03): the arbiter's choice and the completion of a sample job. -/

namespace Sys2Proof.Machine

variable {s : State}

/-! ## The arbiter (R42, R49, R50) -/

theorem arbitrate_of_free (h : s.cve.job = none) : arbitrate s = arbiterChoice s := by
  simp [arbitrate, h]

theorem gradeOfRecord_eq (s : State) (r : SampleRecord) :
    gradeOfRecord s r =
      if r.kind = .point then gradeAt s s.grs.active
      else gradeAt s ((contextOf s r.number).bind ScanContext.slot) := by
  unfold gradeOfRecord
  cases r.kind <;> rfl

/-- R42, R49: a sample job fixes what it reads, and the held record joins the queue. -/
theorem takeSample_of_room (r : SampleRecord) {rest : List SampleRecord} (room : rest.length < 8) (s : State) :
    takeSample r rest s =
      { s with
        cve :=
          { job :=
              some (.sample { record := r, stale := false, refs := s.sdu.refs, grade := gradeOfRecord s r })
            lastServed := .sample }
        gtu := { s.gtu with queue := rest ++ s.gtu.held.toList, held := none } } := by
  have joined : joinHeld { s.gtu with queue := rest } =
      { s.gtu with queue := rest ++ s.gtu.held.toList, held := none } := by
    unfold joinHeld
    cases held : s.gtu.held with
    | none => simp [← held]
    | some old => simp [room, Config.sampleQueueDepth]
  simp [takeSample, State.modCve, State.modGtu, joined]

/-- Settles O39: by what is posted, queued and offered. -/
theorem Certificates.arbiterChoice : Obligations.ArbiterChoice := by
  intro s
  refine ⟨fun busy => ?_, fun free => ?_⟩
  · obtain ⟨job, running⟩ := Option.ne_none_iff_exists'.1 busy
    simp [arbitrate, running]
  intro offered
  rw [arbitrate_of_free free]
  refine ⟨fun dark air posted => ?_, fun r rest posted queue turn room => ?_, fun p posted offers turn => ?_,
    fun posted queue none_offered => ?_⟩
  · simp only [Machine.arbiterChoice, posted]
    rfl
  · have taken : Machine.arbiterChoice s = takeSample r rest s := by
      simp only [Machine.arbiterChoice, posted, queue]
      obtain none_offered | served := turn
      · rw [show offeredPass s = none from none_offered]
      · cases offeredPass s <;> simp [served]
    rw [taken, takeSample_of_room r room, gradeOfRecord_eq]
  · have taken : Machine.arbiterChoice s = takeChunk p s := by
      simp only [Machine.arbiterChoice, posted, show offeredPass s = some p from offers]
      obtain empty | served := turn
      · rw [empty]
      · cases s.gtu.queue <;> simp [served]
    rw [taken]
    rfl
  · simp only [Machine.arbiterChoice, posted, queue, show offeredPass s = none from none_offered]

/-! ## The completion of a sample job (R67, R94, R113) -/

theorem sampleJobComplete_eq {j : SampleJob} (h : s.cve.job = some (.sample j)) :
    sampleJobComplete s =
      engineTests (motionTests (passTests (watchResult j (convert j).bw
        (storeResult j { s with cve := { s.cve with job := none } })))) := by
  rw [sampleJobComplete, h]
  rfl

theorem appendTrend_eq (e : TrendEntry) {l : List TrendEntry} (bound : l.length ≤ 64) :
    appendTrend e l = (if l.length = 64 then l.tail else l) ++ [e] := by
  unfold appendTrend Config.trendRingSize
  split
  next full =>
    have nonempty : l ≠ [] := by
      rintro rfl
      cases full
    rw [full, ← List.drop_one, List.drop_append_of_le_length (by omega)]
  next room => rw [show l.length + 1 - 64 = 0 by omega, List.drop_zero]

/-- R94: acting on a slot entry touches the two accumulators only. -/
theorem modEntry_of_none {scan slot : Nat} {f : SlotEntry → SlotEntry} (h : contextOf s scan = none) :
    modEntry scan slot f s = s := by
  simp [modEntry, h]

theorem modEntry_rest (scan slot : Nat) (f : SlotEntry → SlotEntry) (s : State) :
    { modEntry scan slot f s with
      pfb := { (modEntry scan slot f s).pfb with acc0 := s.pfb.acc0, acc1 := s.pfb.acc1 } } = s := by
  unfold modEntry
  split
  next => rfl
  next a _ => cases a <;> rfl

theorem storeResult_of_scan {j : SampleJob} (scan : j.record.kind ≠ .point) :
    storeResult j s =
      modEntry j.record.number (j.record.slot.getD 0) (fun e => { e with readings := convert j }) s := by
  unfold storeResult
  cases kind : j.record.kind with
  | point => exact absurd kind scan
  | scan | probe => rfl

/-- Settles O40: the result stored by the kind of the record, then handed on. -/
theorem sampleJobs : Obligations.SampleJobs := by
  intro j s hj idle result
  refine ⟨fun g hg => by simp [result, convert, hg], fun n => rfl, ?_⟩
  intro handed
  have complete {stored : State} (h : storeResult j idle = stored) :
      exec .sampleJobComplete s = handed stored :=
    congrArg Host.Outcome.next (h ▸ sampleJobComplete_eq hj)
  refine ⟨fun point stale => complete ?_, fun point fresh bound =>
      ⟨appendTrend { sequence := j.record.number, readings := result, flags := resultFlags j } s.pfb.trend, complete ?_,
        appendTrend_eq _ bound⟩, fun scan gone => complete ?_,
    fun c a slot scan hc ha hslot => ⟨_, complete (storeResult_of_scan scan), fun b i => ?_, modEntry_rest ..⟩⟩
  · simp [storeResult, point, stale]
  · simp only [storeResult, point, fresh]
    rfl
  · exact (storeResult_of_scan scan).trans (modEntry_of_none (s := idle) gone)
  · rw [hslot]
    exact modEntry_getElem? (s := idle) hc ha b i

end Sys2Proof.Machine
end

section
/-! PROOFS. The arithmetic of a profile pass (05): the assembly of a zone, the edges of the zone table, the integer square root, the statistics of a channel, the scan conditions and the summary. -/

namespace Sys2Proof.Machine

variable {s : State}

/-! ## Assembly (R98) -/

theorem le_nearestUp {a b c : Nat} (hb : 0 < b) (h : c * b ≤ a) : c ≤ nearestUp a b := by
  rw [nearestUp, Nat.le_div_iff_mul_le (by omega)]
  nlinarith

/-- The rounded mean of some values lies between two of them. -/
theorem nearestUp_mean_between {l : List Nat} (h : l ≠ []) :
    (∃ low ∈ l, low ≤ nearestUp l.sum l.length) ∧ ∃ high ∈ l, nearestUp l.sum l.length ≤ high := by
  have positive : 0 < l.length := List.length_pos_iff.2 h
  refine ⟨?_, ?_⟩
  · by_contra none_low
    push Not at none_low
    have sum := List.card_nsmul_le_sum l _ fun x hx => none_low x hx
    have := le_nearestUp positive (c := nearestUp l.sum l.length + 1) (by simpa [mul_comm] using sum)
    omega
  · by_contra none_high
    push Not at none_high
    obtain ⟨x, hx⟩ := List.exists_mem_of_ne_nil l h
    have above := none_high x hx
    have sum := List.sum_le_card_nsmul l (nearestUp l.sum l.length - 1) fun x hx => by
      have := none_high x hx
      omega
    have := nearestUp_le (b := l.length) (c := nearestUp l.sum l.length - 1) (by simpa [mul_comm] using sum)
    omega

/-- R98: a channel of a zone is ABSENT by its grade or by its present slots, VALID with enough values, else INVALID. -/
theorem assembleChannel_eq (g : GradeRecord) (slots : List SlotEntry) (ch : Channel) :
    assembleChannel g slots ch =
      let present := slots.filter fun e => !e.missed
      let values := present.filterMap fun e => validValue (e.readings.get ch)
      if channelLacking g ch = true ∨ (present ≠ [] ∧ ∀ e ∈ present, e.readings.get ch = .absent) then .absent
      else if (slots.length + 1) / 2 ≤ values.length ∧ 0 < values.length then
        .valid (nearestUp values.sum values.length)
      else .invalid := by
  unfold assembleChannel
  dsimp only
  refine if_congr ?_ rfl (if_congr ?_ rfl rfl)
  · rw [Bool.or_eq_true, Bool.and_eq_true, Bool.not_eq_true', List.isEmpty_eq_false_iff, List.all_eq_true]
    simp only [beq_iff_eq]
  · rw [Bool.and_eq_true, decide_eq_true_eq, decide_eq_true_eq]

/-! ## Edges (R99) -/

/-- The indices with a property, from an offset: those of a range that name an entry with it. -/
theorem filter_zipIdx_eq (test : ZoneEntry → Bool) (zones : List ZoneEntry) (k : Nat) :
    ((zones.zipIdx k).filter fun x => test x.1).map Prod.snd =
      (List.range' k zones.length).filter fun z => (zones[z - k]?).any test := by
  induction zones generalizing k with
  | nil => rfl
  | cons e zones ih =>
    have later : (List.range' (k + 1) zones.length).filter (fun z => ((e :: zones)[z - k]?).any test)
        = (List.range' (k + 1) zones.length).filter fun z => (zones[z - (k + 1)]?).any test := by
      refine List.filter_congr fun z hz => ?_
      have above := (List.mem_range'_1.1 hz).1
      rw [show z - k = z - (k + 1) + 1 by omega, List.getElem?_cons_succ]
    rw [List.zipIdx_cons, List.length_cons, List.range'_succ, List.filter_cons, List.filter_cons, later, ← ih]
    simp only [Nat.sub_self, List.getElem?_cons_zero, Option.any_some]
    split <;> rfl

theorem zonesWhere_eq (test : ZoneEntry → Bool) (zones : List ZoneEntry) :
    zonesWhere test zones = (List.range zones.length).filter fun z => (zones[z]?).any test := by
  rw [zonesWhere, filter_zipIdx_eq, List.range_eq_range']
  rfl

theorem mem_zonesWhere {test : ZoneEntry → Bool} {zones : List ZoneEntry} {z : Nat} :
    z ∈ zonesWhere test zones ↔ ∃ e, zones[z]? = some e ∧ test e = true := by
  rw [zonesWhere_eq, List.mem_filter, List.mem_range]
  constructor
  · rintro ⟨lt, found⟩
    exact (Option.any_eq_true _ _).1 found
  · rintro ⟨e, he, ok⟩
    exact ⟨(List.getElem?_eq_some_iff.1 he).1, by simp [he, ok]⟩

theorem zonesWhere_sorted (test : ZoneEntry → Bool) (zones : List ZoneEntry) :
    (zonesWhere test zones).Pairwise (· < ·) := by
  rw [zonesWhere_eq]
  exact List.pairwise_lt_range.filter _

/-- The ends of a rising list are its least and its greatest member. -/
theorem spanOf_of_bounds {l : List Nat} {first last : Nat} (sorted : l.Pairwise (· < ·)) (hfirst : first ∈ l)
    (hlast : last ∈ l) (bounds : ∀ z ∈ l, first ≤ z ∧ z ≤ last) : spanOf l = some (first, last) := by
  have nonempty : l ≠ [] := List.ne_nil_of_mem hfirst
  have head : l.head? = some first := by
    cases l with
    | nil => exact absurd rfl nonempty
    | cons a l =>
      obtain rfl | mem := List.mem_cons.1 hfirst
      · rfl
      · have := (List.pairwise_cons.1 sorted).1 first mem
        have := (bounds a List.mem_cons_self).1
        omega
  have tail : l.getLast? = some last := by
    rw [List.getLast?_eq_some_getLast nonempty]
    have below := (bounds _ (List.getLast_mem nonempty)).2
    have split := List.dropLast_append_getLast nonempty
    rw [← split] at sorted hlast
    obtain mem | mem := List.mem_append.1 hlast
    · have := (List.pairwise_append.1 sorted).2.2 last mem _ List.mem_cons_self
      omega
    · rw [List.mem_singleton.1 mem]
  simp [spanOf, head, tail]

theorem zoneOnSheet_iff (threshold : Nat) (z : ZoneEntry) :
    zoneOnSheet threshold z = true ↔ ∃ v, z.readings.bw = .valid v ∧ threshold ≤ v := by
  unfold zoneOnSheet
  cases h : z.readings.bw <;> simp

/-- R99: off-sheet with a VALID value is a value below the threshold, for a zone marked by the threshold. -/
theorem offSheetValid_marked (threshold : Nat) (z : ZoneEntry) :
    offSheetValid { z with onSheet := zoneOnSheet threshold z } =
      match z.readings.bw with
      | .valid v => decide (v < threshold)
      | _ => false := by
  unfold offSheetValid zoneOnSheet
  cases h : z.readings.bw with
  | valid v =>
    simp only [Bool.and_true, ← decide_not]
    exact decide_eq_decide.2 (by omega)
  | invalid | absent => simp

theorem stepB_zones (g : GradeRecord) (p : PassRecord) :
    (stepB g p).zones = p.zones.map fun z => { z with onSheet := zoneOnSheet g.edgeThreshold z } := rfl

theorem stepB_edges (g : GradeRecord) (p : PassRecord) :
    (stepB g p).edges =
      (let span := spanOf (zonesWhere ZoneEntry.onSheet (stepB g p).zones)
      { span := span
        width := match span with
          | some (first, last) => last - first + 1
          | none => 0
        holes := (holesOf span (stepB g p).zones).length }) := rfl

theorem mem_onSheet_stepB (g : GradeRecord) (p : PassRecord) (z : Nat) :
    z ∈ zonesWhere ZoneEntry.onSheet (stepB g p).zones ↔
      ∃ e v, p.zones[z]? = some e ∧ e.readings.bw = .valid v ∧ g.edgeThreshold ≤ v := by
  rw [mem_zonesWhere, stepB_zones]
  simp only [List.getElem?_map, Option.map_eq_some_iff]
  constructor
  · rintro ⟨_, ⟨e, he, rfl⟩, on⟩
    obtain ⟨v, hv, above⟩ := (zoneOnSheet_iff _ _).1 on
    exact ⟨e, v, he, hv, above⟩
  · rintro ⟨e, v, he, hv, above⟩
    exact ⟨_, ⟨e, he, rfl⟩, (zoneOnSheet_iff _ _).2 ⟨v, hv, above⟩⟩

/-- R99: the holes, counted over the table as it was. -/
theorem holes_stepB (g : GradeRecord) (p : PassRecord) (first last : Nat) :
    (holesOf (some (first, last)) (stepB g p).zones).length =
      (List.range p.zones.length).countP fun z =>
        decide (first < z ∧ z < last) &&
          ((p.zones[z]?).any fun e => match e.readings.bw with
            | .valid v => decide (v < g.edgeThreshold)
            | _ => false) := by
  rw [holesOf, zonesWhere_eq, List.filter_filter, ← List.countP_eq_length_filter, stepB_zones, List.length_map]
  refine List.countP_congr fun z _ => ?_
  rw [List.getElem?_map]
  cases p.zones[z]? with
  | none => simp
  | some e =>
    simp only [Option.map_some, Option.any_some, offSheetValid_marked, Bool.and_eq_true, decide_eq_true_eq]

/-- Settles O42: the condition of each result of assembly, and the ends and holes of the marked table. -/
theorem assemblyAndEdges : Obligations.AssemblyAndEdges := by
  refine ⟨?_, ?_⟩
  · intro g ch slots lacking present values absent
    have assembled := assembleChannel_eq g slots ch
    have absence : (channelLacking g ch = true ∨ (present ≠ [] ∧ ∀ e ∈ present, e.readings.get ch = .absent)) ↔ absent := by
      cases ch <;> exact Iff.rfl
    refine ⟨fun is_absent => assembled.trans (if_pos (absence.2 is_absent)), fun not_absent enough some_value => ?_,
      fun not_absent few => ?_⟩
    · have nonempty : values ≠ [] := List.ne_nil_of_length_pos some_value
      exact ⟨nearestUp values.sum values.length,
        assembled.trans ((if_neg (mt absence.1 not_absent)).trans (if_pos ⟨enough, some_value⟩)), rfl,
        nearestUp_mean_between nonempty⟩
    · refine assembled.trans ((if_neg (mt absence.1 not_absent)).trans (if_neg ?_))
      rintro ⟨enough, some_value⟩
      obtain short | none_value := few
      · exact absurd enough (Nat.not_le.2 short)
      · exact absurd none_value (List.ne_nil_of_length_pos some_value)
  · intro g p q onSheet
    refine ⟨by simp [q, stepB_zones], fun z e he => ?_, fun none_on => ?_, fun first last hf hl bounds => ?_, rfl, rfl, rfl⟩
    · rw [stepB_zones, List.getElem?_map] at he
      obtain ⟨e, at_z, rfl⟩ := Option.map_eq_some_iff.1 he
      refine ⟨?_, by rw [at_z]; rfl⟩
      simp [zoneOnSheet_iff, onSheet, at_z]
    · have empty : zonesWhere ZoneEntry.onSheet (stepB g p).zones = [] :=
        List.eq_nil_iff_forall_not_mem.2 fun z hz => none_on z ((mem_onSheet_stepB g p z).1 hz)
      rw [stepB_edges, empty]
      rfl
    · have span : spanOf (zonesWhere ZoneEntry.onSheet (stepB g p).zones) = some (first, last) :=
        spanOf_of_bounds (zonesWhere_sorted _ _) ((mem_onSheet_stepB g p _).2 hf) ((mem_onSheet_stepB g p _).2 hl)
          fun z hz => bounds z ((mem_onSheet_stepB g p z).1 hz)
      rw [stepB_edges, span]
      exact ⟨rfl, rfl, holes_stepB g p first last⟩

/-! ## The integer square root (R56) -/

/-- R56: below 2^k the bits from the highest find the largest root above s whose square fits. -/
theorem isqrtBits_spec (v : Nat) {k s : Nat} (low : s * s ≤ v) (high : v < (s + 2 ^ k) * (s + 2 ^ k)) :
    isqrtBits v k s * isqrtBits v k s ≤ v ∧ v < (isqrtBits v k s + 1) * (isqrtBits v k s + 1) := by
  induction k generalizing s with
  | zero => exact ⟨low, by simpa [isqrtBits] using high⟩
  | succ k ih =>
    rw [isqrtBits, isqrtBit]
    split
    next fits => exact ih fits (by rw [add_assoc, ← two_mul, ← pow_succ']; exact high)
    next beyond => exact ih low (Nat.lt_of_not_le beyond)

theorem isqrt_spec (v : Nat) : isqrt v * isqrt v ≤ v ∧ v < (isqrt v + 1) * (isqrt v + 1) := by
  refine isqrtBits_spec v (Nat.zero_le v) ?_
  have below : v < 2 ^ (v.log2 + 1) := Nat.lt_log2_self
  have fits : 2 ^ (v.log2 + 1) ≤ 2 ^ ((v.log2 / 2 + 1) + (v.log2 / 2 + 1)) :=
    Nat.pow_le_pow_right (by omega) (by omega)
  rw [Nat.zero_add, ← pow_add]
  exact below.trans_le fits

/-! ## The statistics of a channel (R101) -/

/-- R101: the sums over some values with their zones. -/
def sumsOf (values : List (Nat × Nat)) : RunningSums :=
  values.foldl (fun r x => addValue x.1 x.2 r) .zero

theorem sumsOf_concat (values : List (Nat × Nat)) (x : Nat × Nat) :
    sumsOf (values ++ [x]) = addValue x.1 x.2 (sumsOf values) := by
  simp [sumsOf]

theorem sumsOf_totals (values : List (Nat × Nat)) :
    (sumsOf values).n = values.length ∧ (sumsOf values).sum = (values.map Prod.fst).sum
      ∧ (sumsOf values).sumSq = (values.map fun x => x.1 * x.1).sum := by
  induction values using List.reverseRecOn with
  | nil => exact ⟨rfl, rfl, rfl⟩
  | append_singleton values x ih =>
    obtain ⟨n, sum, sumSq⟩ := ih
    rw [sumsOf_concat]
    simp [addValue, n, sum, sumSq]

/-- R101: an extreme is a value with its zone such that every value is beyond it, or equal in a later zone. -/
def IsExtreme (before : Nat → Nat → Prop) (values : List (Nat × Nat)) (m : Nat × Nat) : Prop :=
  m ∈ values ∧ ∀ x ∈ values, before m.1 x.1 ∨ (m.1 = x.1 ∧ m.2 ≤ x.2)

theorem IsExtreme.concat_kept {before : Nat → Nat → Prop} {values : List (Nat × Nat)} {m x : Nat × Nat}
    (h : IsExtreme before values m) (later : ∀ y ∈ values, y.2 < x.2) (le : before m.1 x.1 ∨ m.1 = x.1) :
    IsExtreme before (values ++ [x]) m := by
  refine ⟨List.mem_append_left _ h.1, fun y hy => ?_⟩
  obtain mem | mem := List.mem_append.1 hy
  · exact h.2 y mem
  · rw [List.mem_singleton.1 mem]
    exact le.imp_right fun same => ⟨same, (later m h.1).le⟩

theorem IsExtreme.concat_new {before : Nat → Nat → Prop} (trans : ∀ a b c, before a b → before b c → before a c)
    {values : List (Nat × Nat)} {m x : Nat × Nat} (h : IsExtreme before values m) (beyond : before x.1 m.1) :
    IsExtreme before (values ++ [x]) x := by
  refine ⟨by simp, fun y hy => ?_⟩
  obtain mem | mem := List.mem_append.1 hy
  · obtain past | ⟨same, _⟩ := h.2 y mem
    · exact .inl (trans _ _ _ beyond past)
    · exact .inl (same ▸ beyond)
  · rw [List.mem_singleton.1 mem]
    exact .inr ⟨rfl, le_rfl⟩

theorem isExtreme_singleton (before : Nat → Nat → Prop) (x : Nat × Nat) : IsExtreme before [x] x :=
  ⟨by simp, fun y hy => .inr (by rw [List.mem_singleton.1 hy]; exact ⟨rfl, le_rfl⟩)⟩

/-- R101: the extremes that the sums hold, for zones that rise. -/
theorem sumsOf_extremes {values : List (Nat × Nat)} (nonempty : values ≠ [])
    (rising : (values.map Prod.snd).Pairwise (· < ·)) :
    (∃ m, (sumsOf values).least = some m ∧ IsExtreme (· < ·) values m)
      ∧ ∃ m, (sumsOf values).greatest = some m ∧ IsExtreme (· > ·) values m := by
  induction values using List.reverseRecOn with
  | nil => exact absurd rfl nonempty
  | append_singleton values x ih =>
    rw [sumsOf_concat]
    obtain rfl | some_before := eq_or_ne values []
    · exact ⟨⟨x, rfl, isExtreme_singleton _ x⟩, ⟨x, rfl, isExtreme_singleton _ x⟩⟩
    · rw [List.map_append, List.pairwise_append] at rising
      obtain ⟨before, _, later⟩ := rising
      have later : ∀ y ∈ values, y.2 < x.2 := fun y hy => later _ (List.mem_map_of_mem hy) _ (by simp)
      obtain ⟨⟨m, hm, least⟩, ⟨k, hk, greatest⟩⟩ := ih some_before before
      simp only [addValue, hm, hk]
      refine ⟨?_, ?_⟩
      · split
        next below => exact ⟨_, rfl, IsExtreme.concat_new (before := (· < ·)) (fun _ _ _ p q => lt_trans p q) least below⟩
        next above => exact ⟨_, rfl, least.concat_kept later (by omega)⟩
      · split
        next above => exact ⟨_, rfl, IsExtreme.concat_new (before := (· > ·)) (fun _ _ _ p q => lt_trans q p) greatest above⟩
        next below => exact ⟨_, rfl, greatest.concat_kept later (by omega)⟩

/-- R101: V from the three sums is the sum of the squared deviations. -/
theorem sumOfSquares_eq (values : List (Nat × Nat)) (mean : Nat) :
    sumOfSquares (sumsOf values) mean =
      (values.map fun x => ((x.1 : Int) - mean) * ((x.1 : Int) - mean)).sum.toNat := by
  have expanded : (values.map fun x => ((x.1 : Int) - mean) * ((x.1 : Int) - mean)).sum
      = (values.map fun x => x.1 * x.1).sum - 2 * mean * (values.map Prod.fst).sum
        + values.length * mean * mean := by
    induction values with
    | nil => simp
    | cons x values ih =>
      simp only [List.map_cons, List.sum_cons, ih, List.length_cons]
      push_cast
      ring
  obtain ⟨n, sum, sumSq⟩ := sumsOf_totals values
  rw [sumOfSquares, n, sum, sumSq, expanded]

theorem absentEverywhere_iff (p : PassRecord) (ch : Channel) :
    absentEverywhere p ch = true ↔ ∀ z ∈ p.zones, z.readings.get ch = .absent := by
  simp [absentEverywhere]

/-! ## The scan conditions and the summary (R105, R110) -/

theorem deviates_iff (mean target band : Nat) :
    deviates mean target band = true ↔ band < ((mean : Int) - target).natAbs := by
  simp only [deviates, Bool.or_eq_true, decide_eq_true_eq]
  omega

theorem bwDeviation_iff (g : GradeRecord) (x : ChannelSummary) (d : Nat) :
    bwDeviation g x = some d ↔
      g.bwBand ≠ 0 ∧ (∃ f, x.status = .ok f ∧ f.mean = d) ∧ g.bwBand < ((d : Int) - g.bwTarget).natAbs := by
  unfold bwDeviation
  cases x.status with
  | ok f =>
    simp only [← deviates_iff, ChannelStatus.ok.injEq, exists_eq_left']
    by_cases found : f.mean = d <;> simp [found]
  | absent | noData => simp

theorem moiDeviation_iff (g : GradeRecord) (x : ChannelSummary) (d : Nat) :
    moiDeviation g x = some d ↔
      ∃ m, g.moisture = some m ∧ m.band ≠ 0 ∧ (∃ f, x.status = .ok f ∧ f.mean = d)
        ∧ m.band < ((d : Int) - m.target).natAbs := by
  unfold moiDeviation
  cases g.moisture with
  | none => simp
  | some m =>
    cases x.status with
    | ok f =>
      simp only [← deviates_iff, ChannelStatus.ok.injEq, exists_eq_left', Option.some.injEq]
      by_cases found : f.mean = d <;> simp [found]
    | absent | noData => simp

theorem bwSpread_iff (g : GradeRecord) (x : ChannelSummary) (d : Nat) :
    bwSpread g x = some d ↔
      g.spreadLimit ≠ 0 ∧ g.spreadLimit < d ∧ ∃ f, x.status = .ok f ∧ f.twoSigma = d := by
  unfold bwSpread
  cases x.status with
  | ok f =>
    simp only [ChannelStatus.ok.injEq, exists_eq_left']
    by_cases found : f.twoSigma = d <;> simp [found]
  | absent | noData => simp

theorem head?_eq_some_iff_of_sorted {l : List Nat} (sorted : l.Pairwise (· < ·)) (d : Nat) :
    l.head? = some d ↔ d ∈ l ∧ ∀ z ∈ l, d ≤ z := by
  cases l with
  | nil => simp
  | cons a l =>
    have above := (List.pairwise_cons.1 sorted).1
    constructor
    · rintro ⟨rfl⟩
      exact ⟨List.mem_cons_self, fun z hz => (List.mem_cons.1 hz).elim (·.ge) fun mem => (above z mem).le⟩
    · rintro ⟨mem, least⟩
      obtain rfl | later := List.mem_cons.1 mem
      · rfl
      · have := above d later
        have := least a List.mem_cons_self
        omega

theorem mem_holesOf (span : Option (Nat × Nat)) (zones : List ZoneEntry) (z : Nat) :
    z ∈ holesOf span zones ↔
      ∃ first last e v, span = some (first, last) ∧ first < z ∧ z < last
        ∧ zones[z]? = some e ∧ e.onSheet = false ∧ e.readings.bw = .valid v := by
  have off (e : ZoneEntry) : offSheetValid e = true ↔ e.onSheet = false ∧ ∃ v, e.readings.bw = .valid v := by
    unfold offSheetValid
    cases e.readings.bw <;> simp
  obtain _ | ⟨first, last⟩ := span
  · simp [holesOf]
  · simp only [holesOf, List.mem_filter, mem_zonesWhere, off, Bool.and_eq_true, decide_eq_true_eq, Option.some.injEq,
      Prod.mk.injEq]
    constructor
    · rintro ⟨⟨e, he, on, v, hv⟩, lo, hi⟩
      exact ⟨first, last, e, v, ⟨rfl, rfl⟩, lo, hi, he, on, hv⟩
    · rintro ⟨_, _, e, v, ⟨rfl, rfl⟩, lo, hi, he, on, hv⟩
      exact ⟨⟨e, he, on, v, hv⟩, lo, hi⟩

theorem holesOf_sorted (span : Option (Nat × Nat)) (zones : List ZoneEntry) :
    (holesOf span zones).Pairwise (· < ·) := by
  obtain _ | ⟨first, last⟩ := span
  · exact .nil
  · exact (zonesWhere_sorted _ _).filter _

theorem mem_kindsRaised (conditions : List (AlarmKind × Option Nat)) (entries : List SlotEntry) (kind : AlarmKind) :
    kind ∈ kindsRaised conditions entries ↔
      (∃ d, (kind, some d) ∈ conditions) ∨ (kind = .sampleOverrun ∧ ∃ e ∈ entries, e.missed = true) := by
  have missed : kind ∈ (if entries.any SlotEntry.missed then [AlarmKind.sampleOverrun] else [])
      ↔ kind = .sampleOverrun ∧ ∃ e ∈ entries, e.missed = true := by
    rw [← List.any_eq_true]
    split <;> simp_all
  rw [kindsRaised, List.mem_append, missed]
  refine or_congr_left ?_
  simp only [List.mem_map, List.mem_filter, Option.isSome_iff_exists]
  constructor
  · rintro ⟨⟨_, _⟩, ⟨mem, d, rfl⟩, rfl⟩
    exact ⟨d, mem⟩
  · rintro ⟨d, mem⟩
    exact ⟨_, ⟨mem, d, rfl⟩, rfl⟩

/-- Settles O44: the sums of rising zones, the four conditions one by one, and the kinds of the summary. -/
theorem statistics : Obligations.Statistics := by
  refine ⟨⟨isqrt_spec, ?_⟩, ?_, ?_, ?_⟩
  · intro values nonempty rising r n sum mean squares f
    obtain ⟨hn, hsum, _⟩ := sumsOf_totals values
    obtain ⟨⟨m, hm, least⟩, ⟨k, hk, greatest⟩⟩ := sumsOf_extremes nonempty rising
    have hmean : f.mean = mean := by
      simp only [f, figuresOf, nearestUp]
      rw [show r.sum = sum from hsum, show r.n = n from hn]
    have figures_least : (f.least, f.leastZone) = m := by
      simp [f, figuresOf, show r.least = some m from hm]
    have figures_greatest : (f.greatest, f.greatestZone) = k := by
      simp [f, figuresOf, show r.greatest = some k from hk]
    subst figures_least figures_greatest
    refine ⟨hn, hmean, ?_, least.1, greatest.1, fun x hx => ⟨?_, ?_⟩⟩
    · have squared : sumOfSquares r mean = squares.toNat := sumOfSquares_eq values mean
      rw [← squared, ← hmean, show n = r.n from hn.symm]
      rfl
    · exact least.2 x hx
    · exact (greatest.2 x hx).imp_right fun ⟨same, before⟩ => ⟨same.symm, before⟩
  · intro p ch r c absent
    refine ⟨rfl, rfl, fun some_value => ?_, fun no_value is_absent => ?_, fun no_value not_absent => ?_⟩
    · exact if_pos some_value
    · exact (if_neg (Nat.not_lt.2 no_value.le)).trans (if_pos ((absentEverywhere_iff p ch).2 is_absent))
    · exact (if_neg (Nat.not_lt.2 no_value.le)).trans (if_neg (mt (absentEverywhere_iff p ch).1 not_absent))
  · intro g p conditions detail mean hole
    refine ⟨rfl, fun d => ⟨?_, ?_, ?_, ?_⟩⟩
    · exact Iff.trans (by simp [detail, conditions, scanConditions, eq_comm]) (bwDeviation_iff g _ d)
    · exact Iff.trans (by simp [detail, conditions, scanConditions, eq_comm]) (moiDeviation_iff g _ d)
    · exact Iff.trans (by simp [detail, conditions, scanConditions, eq_comm]) (bwSpread_iff g _ d)
    · have first_hole : detail .edgeHole d ↔ (holesOf p.edges.span p.zones).head? = some d := by
        simp [detail, conditions, scanConditions, eq_comm]
      rw [first_hole, head?_eq_some_iff_of_sorted (holesOf_sorted _ _)]
      simp only [mem_holesOf]
      exact Iff.rfl
  · intro s c g entries p x
    exact ⟨rfl, mem_kindsRaised _ _⟩

end Sys2Proof.Machine
end

section
/-! PROOFS. The completion of a pass chunk (05): steps A to E, each by what it writes into the pass, the working set or the state. -/

namespace Sys2Proof.Machine

variable {s : State}

/-! ## The chunks of a step (R97) -/

theorem mem_chunkRange {Z first z : Nat} : z ∈ chunkRange Z first ↔ first ≤ z ∧ z < first + 16 ∧ z < Z := by
  simp only [chunkRange, Config.chunkZones, List.mem_map, List.mem_range]
  constructor
  · rintro ⟨i, hi, rfl⟩
    omega
  · rintro ⟨lo, hi, hz⟩
    exact ⟨z - first, by omega, by omega⟩

theorem chunkRange_nodup (Z first : Nat) : (chunkRange Z first).Nodup :=
  List.nodup_range.map fun _ _ h => Nat.add_left_cancel h

theorem chunkRange_length (Z first : Nat) : (chunkRange Z first).length = min 16 (Z - first) := by
  simp [chunkRange, Config.chunkZones]

/-- R97: the pass after a chunk: what it has found stays, and the next chunk is offered. -/
theorem advanceTo_eq (Z : Nat) (following : PassStep) (p : PassRecord) :
    advanceTo Z following p =
      { p with
        step := if decide (p.nextZone + 16 < Z) then p.step else following
        nextZone := if decide (p.nextZone + 16 < Z) then p.nextZone + 16 else 0
        offered := true } := by
  unfold advanceTo Config.chunkZones
  by_cases more : p.nextZone + 16 < Z <;> simp [more]

/-! ## Step C (R99, R101) -/

/-- R101: the value that a zone gives a channel's sums, with its zone. -/
def countedValue (p : PassRecord) (guardZones : Nat) (ch : Channel) (z : Nat) : Option (Nat × Nat) :=
  match p.zones[z]?, p.edges.span with
  | some e, some (first, last) =>
    match e.readings.get ch with
    | .valid v =>
      if e.onSheet = true ∧ first + guardZones ≤ z ∧ z + guardZones ≤ last then some (v, z) else none
    | _ => none
  | _, _ => none

theorem addZone_eq (p : PassRecord) (guardZones : Nat) (ch : Channel) (r : RunningSums) (z : Nat) :
    addZone p guardZones ch r z =
      match countedValue p guardZones ch z with
      | some x => addValue x.1 x.2 r
      | none => r := by
  unfold addZone zoneReading countedZone countedValue
  cases zone : p.zones[z]? with
  | none => rfl
  | some e =>
    obtain _ | ⟨first, last⟩ := p.edges.span
    · cases reading : e.readings.get ch <;> simp [reading]
    · cases reading : e.readings.get ch with
      | invalid | absent => simp [reading]
      | valid v =>
        by_cases counted : e.onSheet = true ∧ first + guardZones ≤ z ∧ z + guardZones ≤ last
        · simp [reading, counted]
        · have outside : (decide (first + guardZones ≤ z) && decide (z + guardZones ≤ last) && e.onSheet) = false := by
            rw [← Bool.not_eq_true, Bool.and_eq_true, Bool.and_eq_true, decide_eq_true_eq, decide_eq_true_eq]
            tauto
          simp [reading, counted, outside]

theorem foldl_addZone (p : PassRecord) (guardZones : Nat) (ch : Channel) (zones : List Nat) (r : RunningSums) :
    zones.foldl (addZone p guardZones ch) r =
      (zones.filterMap (countedValue p guardZones ch)).foldl (fun r x => addValue x.1 x.2 r) r := by
  rw [List.foldl_filterMap]
  congr 1
  funext r z
  rw [addZone_eq]
  cases countedValue p guardZones ch z <;> rfl

theorem passReseeded_iff (reseed : Option Reseed) (order : Nat) :
    passReseeded reseed order = true ↔ ∃ r, reseed = some r ∧ r.mark.order ≤ order := by
  cases reseed <;> simp [passReseeded]

/-! ## Step D (R102) -/

/-- Acting on some places of a list acts on each of them once. -/
theorem getElem?_foldl_modify {α : Type} (f : Nat → α → α) {places : List Nat} (distinct : places.Nodup)
    (l : List α) (i : Nat) :
    (places.foldl (fun w z => w.modify z (f z)) l)[i]? = if i ∈ places then (l[i]?).map (f i) else l[i]? := by
  induction places generalizing l with
  | nil => simp
  | cons z places ih =>
    obtain ⟨fresh, distinct⟩ := List.nodup_cons.1 distinct
    rw [List.foldl_cons, ih distinct, List.getElem?_modify]
    obtain rfl | other := eq_or_ne z i
    · simp [fresh]
    · simp [other, other.symm]

theorem length_foldl_modify {α : Type} (f : Nat → α → α) (places : List Nat) (l : List α) :
    (places.foldl (fun w z => w.modify z (f z)) l).length = l.length := by
  induction places generalizing l with
  | nil => rfl
  | cons z places ih => rw [List.foldl_cons, ih, List.length_modify]

theorem filterChunk_getElem? (g : GradeRecord) (geo : Geometry) (p : PassRecord) {working : List ProfileZone}
    {z : Nat} {old : ProfileZone} (h : working[z]? = some old) :
    (filterChunk g geo p working)[z]? =
      some
        (match decide (p.nextZone ≤ z ∧ z < p.nextZone + 16 ∧ z < geo.Z), p.zones[z]? with
        | true, some e =>
          { cells := .build (fun ch => filterCell p g.filterShift z (e.readings.get ch) (old.cells.get ch))
            onSheet := e.onSheet }
        | _, _ => old) := by
  rw [filterChunk, getElem?_foldl_modify _ (chunkRange_nodup ..), h, Option.map_some, filterZone]
  simp only [mem_chunkRange]
  by_cases covered : p.nextZone ≤ z ∧ z < p.nextZone + 16 ∧ z < geo.Z
  · rw [if_pos covered, decide_eq_true covered]
    cases p.zones[z]? <;> rfl
  · rw [if_neg covered, decide_eq_false covered]

/-! ## Step E (R103, R104, R111, R120) -/

theorem appendSummary_eq (x : Summary) {l : List Summary} (bound : l.length ≤ 4) :
    appendSummary x l = (if l.length = 4 then l.tail else l) ++ [x] := by
  unfold appendSummary Config.summaryQueueDepth
  split
  next full =>
    rw [full, ← List.drop_one, List.drop_append_of_le_length (by omega)]
  next room => rw [show l.length + 1 - 4 = 0 by omega, List.drop_zero]

/-- R103: after a re-seeded pass the flag is set on the later mark, if that lies after the scan. -/
theorem reseedAfter_of_set (order : Nat) (r : Reseed) :
    reseedAfter order (some r) =
      match r.later with
      | some m => if order < m.order then some { mark := m, later := none } else none
      | none => none := by
  obtain ⟨mark, _ | m⟩ := r
  · rfl
  · by_cases reached : m.order ≤ order
    · exact (if_pos reached).trans (if_neg (Nat.not_lt.2 reached)).symm
    · exact (if_neg reached).trans (if_pos (Nat.lt_of_not_le reached)).symm

theorem countPublished_eq (s : State) :
    countPublished s =
      { s with
        sdu :=
          { s.sdu with
            countdown := s.sdu.countdown.map (· - 1)
            wanted := s.sdu.wanted || s.sdu.countdown == some 1 } } := by
  have idle (same : s.sdu.countdown.map (· - 1) = s.sdu.countdown) (other : s.sdu.countdown ≠ some 1) :
      s = { s with
        sdu :=
          { s.sdu with
            countdown := s.sdu.countdown.map (· - 1)
            wanted := s.sdu.wanted || s.sdu.countdown == some 1 } } := by
    rw [same, beq_eq_false_iff_ne.2 other, Bool.or_false]
  unfold countPublished
  split
  next off => exact idle (by rw [off]; rfl) (by simp [off])
  next n left =>
    by_cases zero : n = 0
    · rw [if_pos (by simpa using zero)]
      exact idle (by rw [left, zero]; rfl) (by simp [left, zero])
    · by_cases one : n = 1 <;> simp [left, zero, one, setWanted, State.modSdu]

theorem endPass_eq (scan : Nat) (s : State) :
    endPass scan s =
      { s with
        pfb := { s.pfb with pass := none, contexts := s.pfb.contexts.filter fun x => x.number != scan }
        grs := { s.grs with pins := s.grs.pins.filter fun x => x.scan != scan } } := by
  simp only [endPass, removeScans, not_contains_singleton]
  rfl

theorem finishPass_eq (c : ScanContext) (g : GradeRecord) (entries : List SlotEntry) (p : PassRecord) (s : State) :
    finishPass c g entries p s =
      { s with
        pfb :=
          { s.pfb with
            pass := none, contexts := s.pfb.contexts.filter fun x => x.number != c.number
            published := s.pfb.working, publishedScan := c.number, publishedEdges := p.edges.span
            summaries := appendSummary (buildSummary s c g entries p) s.pfb.summaries
            reseed := if p.reseeded then reseedAfter c.order s.pfb.reseed else s.pfb.reseed }
        grs := { s.grs with pins := s.grs.pins.filter fun x => x.scan != c.number }
        plx :=
          { s.plx with
            alarms :=
              (scanConditions g p).foldl
                (fun l y => match y.2 with
                  | some detail => raiseIn y.1 detail c.number l
                  | none => endIn y.1 l) s.plx.alarms
            alarmNew := s.plx.alarmNew || (scanConditions g p).any fun y => y.2.isSome
            scanToggle := !s.plx.scanToggle }
        sdu :=
          { s.sdu with
            countdown := s.sdu.countdown.map (· - 1)
            wanted := s.sdu.wanted || s.sdu.countdown == some 1 } } := by
  simp only [finishPass, endPass_eq, countPublished_eq, applyCondition_fold]
  rfl

/-! ## The completion (R70, R97) -/

theorem passChunkComplete_eq {k : Chunk} (h : s.cve.job = some (.chunk k)) :
    passChunkComplete s =
      engineTests (motionTests (passTests (chunkResult k { s with cve := { s.cve with job := none } }))) := by
  rw [passChunkComplete, h]
  rfl

theorem chunkResult_of_gone {k : Chunk} (h : ∀ p, s.pfb.pass = some p → p.scan ≠ k.scan) : chunkResult k s = s := by
  unfold chunkResult
  split
  next => rfl
  next p running => rw [if_neg (by simpa using h p running)]

theorem chunkResult_of_running {k : Chunk} {p : PassRecord} {c : ScanContext} {g : GradeRecord} {geo : Geometry}
    (running : s.pfb.pass = some p) (own : p.scan = k.scan) (hc : contextOf s p.scan = some c)
    (hgeo : s.gtu.geometry = some geo) (hg : gradeAt s c.slot = some g) :
    chunkResult k s = runChunk c g geo p s := by
  simp [chunkResult, running, ← own, hc, hgeo, hg]

theorem get_build {α : Type} (f : Channel → α) (ch : Channel) : (PerChannel.build f).get ch = f ch := by
  cases ch <;> rfl

/-- R103: step D begins with re-seed fixed; a chunk of step C before the last leaves it. -/
theorem beginFilter_stepC (c : ScanContext) (g : GradeRecord) (geo : Geometry) {p : PassRecord} (s : State)
    (statistics : p.step = .statistics) :
    beginFilter c s (stepC g geo p) =
      { stepC g geo p with
        reseeded := if p.nextZone + 16 < geo.Z then p.reseeded else passReseeded s.pfb.reseed c.order } := by
  by_cases more : p.nextZone + 16 < geo.Z <;>
    simp [beginFilter, stepC, advanceTo_eq, more, statistics]

/-- Settles O46: step by step, through what each step writes. -/
theorem passChunks : Obligations.PassChunks := by
  intro k s hk idle handed
  have complete {x : State} (h : chunkResult k idle = x) : exec .passChunkComplete s = handed x :=
    congrArg Host.Outcome.next (h ▸ passChunkComplete_eq hk)
  refine ⟨fun gone => complete (chunkResult_of_gone gone), ?_⟩
  intro p c g geo running own hc hgeo hg entries wrote ended more
  have run : chunkResult k idle = runChunk c g geo p idle := chunkResult_of_running running own hc hgeo hg
  have entries_eq : (c.accumulator.map idle.pfb.entries).getD [] = entries := by
    simp only [entries]
    cases c.accumulator <;> rfl
  refine ⟨fun step => ?_, fun step => ?_, fun step => ?_, fun step => ?_, fun step => ?_⟩
  · refine ⟨stepA g geo entries p, complete (run.trans ?_), ?_⟩
    · simp only [runChunk, step, entries_eq]
      rfl
    · rw [stepA, advanceTo_eq]
      refine ⟨?_, rfl, rfl, rfl, ?_, rfl, rfl, fun ch => ?_⟩
      · simp only [chunkRange, List.map_map]
        rfl
      · simp only [step]
        rfl
      · simp only [get_build, chunkRange_length]
        rfl
  · intro q minimum
    have after : chunkResult k idle = afterEdges c g geo q idle := by
      rw [run]
      simp only [runChunk, step]
      rfl
    have released : endPass c.number idle = ended := endPass_eq _ _
    refine ⟨fun probe => complete (after.trans ?_), fun counted narrow => complete (after.trans ?_),
      fun counted wide => complete (after.trans ?_)⟩
    · simp only [afterEdges, probe, beq_self_eq_true, if_true, released]
      rfl
    · simp only [afterEdges, beq_eq_false_iff_ne.2 counted, released]
      exact if_pos narrow
    · simp only [afterEdges, beq_eq_false_iff_ne.2 counted]
      exact if_neg (Nat.not_lt.2 wide)
  · refine ⟨beginFilter c idle (stepC g geo p), complete (run.trans ?_), ?_⟩
    · simp only [runChunk, step]
      rfl
    · rw [beginFilter_stepC c g geo idle step, stepC, advanceTo_eq]
      refine ⟨rfl, rfl, rfl, fun ch => ?_, ?_, rfl, rfl, fun h => ?_, fun h => ?_⟩
      · simp only [get_build, foldl_addZone]
        rfl
      · simp only [step]
        rfl
      · exact if_pos (of_decide_eq_true h)
      · simp only [if_neg (of_decide_eq_false h)]
        exact passReseeded_iff _ _
  · refine ⟨advanceTo geo.Z .finish p, filterChunk g geo p s.pfb.working, complete (run.trans ?_), ?_⟩
    · simp only [runChunk, step]
      rfl
    · rw [advanceTo_eq]
      refine ⟨rfl, rfl, rfl, rfl, rfl, ?_, rfl, rfl, length_foldl_modify .., fun z old h => filterChunk_getElem? g geo p h⟩
      simp only [step]
      rfl
  · refine ⟨finishPass c g entries p idle, complete (run.trans ?_), ?_⟩
    · simp only [runChunk, step, entries_eq]
    · rw [finishPass_eq]
      refine ⟨rfl, rfl, rfl, rfl, rfl, rfl, rfl, fun bound => appendSummary_eq _ bound, rfl, rfl, rfl, fun h => ?_,
        fun r h later => ?_, rfl, ?_, rfl, rfl, rfl, rfl, rfl, rfl, rfl, rfl⟩
      · exact if_neg (by simp [h])
      · exact (if_pos h).trans ((congrArg (reseedAfter c.order) later).trans (reseedAfter_of_set c.order r))
      · simp [idle]

end Sys2Proof.Machine
end

section
/-! PROOFS. The break monitor (07): the declaration, from the purge of the records and the park order, and the causes, the gauge-loss count and the probe report. -/

namespace Sys2Proof.Machine

variable {s : State}

/-! ## Purges one after another (R44) -/

theorem removeRecords_removeRecords (p q : SampleRecord → Bool) (g : GateUnit) :
    removeRecords q (removeRecords p g) = removeRecords (fun r => p r || q r) g := by
  have both (l : List SampleRecord) :
      (l.filter fun r => !p r).filter (fun r => !q r) = l.filter fun r => !(p r || q r) := by
    rw [List.filter_filter]
    exact List.filter_congr fun r _ => by rw [Bool.not_or, Bool.and_comm]
  have held (h : Option SampleRecord) :
      (h.filter fun r => !p r).filter (fun r => !q r) = h.filter fun r => !(p r || q r) := by
    cases h with
    | none => rfl
    | some r => cases hp : p r <;> cases hq : q r <;> simp [Option.filter, hp, hq]
  have toList (h : Option SampleRecord) : (h.toList.filter fun r => !q r) = (h.filter fun r => !q r).toList := by
    cases h with
    | none => rfl
    | some r => cases hq : q r <;> simp [Option.filter, hq]
  simp only [removeRecords_eq]
  by_cases room : (g.queue.filter fun r => !p r).length < 8
  · have still : (g.queue.filter fun r => !(p r || q r)).length < 8 :=
      both g.queue ▸ (List.length_filter_le ..).trans_lt room
    simp only [if_pos room, if_pos still, List.filter_append, toList, both, held, Option.filter_none,
      Option.toList_none, List.append_nil, ite_self]
  · simp only [if_neg room, both, held]

theorem ofScans_append (l m : List Nat) (r : SampleRecord) :
    (ofScans l r || ofScans m r) = ofScans (l ++ m) r := by
  simp only [ofScans, List.contains_append]
  cases r.kind != .point <;> simp

/-- A purge touches the queue and the holding record only. -/
theorem removeRecords_of_closed (p : SampleRecord → Bool) (g : GateUnit) (c : Option Comparator) (o : Option OpenScan) :
    removeRecords p { g with comparator := c, openScan := o } =
      { removeRecords p g with comparator := c, openScan := o } := by
  simp only [removeRecords_eq]

/-! ## The park order of a declaration (R25, R145 step 5) -/

/-- The open scan that a park order aborts. -/
def scansClosed (s : State) : List Nat :=
  if isScanning s.trc.state then (s.gtu.openScan.map OpenScan.number).toList else []

theorem moveTo_of_unwatched {new : TraverseState} (watch : s.bkm.watch = .off) (run : s.bkm.runCount = 0)
    (scanning : isScanning new = false) (point : isPoint new = false) :
    moveTo new s =
      { s with
        trc := (moveTo new s).trc
        gtu :=
          { s.gtu with
            comparator := if isScanning s.trc.state then none else s.gtu.comparator
            pointTimer := if isPoint s.trc.state then none else s.gtu.pointTimer } } := by
  have kept : s.bkm = { s.bkm with watch := .off, runCount := 0 } := by rw [← watch, ← run]
  rw [moveTo_eq]
  simp only [scanning, point, and_true, watch, run, ite_self]
  rw [← kept]

theorem abortOpenScan_of_unwatched (watch : s.bkm.watch = .off) (contexts : s.pfb.contexts = [])
    (joined : removeRecords (ofScans []) s.gtu = s.gtu) :
    abortOpenScan s =
      { s with
        gtu :=
          { removeRecords (ofScans (s.gtu.openScan.map OpenScan.number).toList) s.gtu with
            comparator := if s.gtu.openScan.isSome then none else s.gtu.comparator
            openScan := none }
        grs :=
          { s.grs with
            pins := s.grs.pins.filter fun p => !(s.gtu.openScan.map OpenScan.number).toList.contains p.scan } } := by
  cases h : s.gtu.openScan with
  | none =>
    have closed : s.gtu = { s.gtu with openScan := none } := by rw [← h]
    have pins : s.grs.pins.filter (fun p => !([] : List Nat).contains p.scan) = s.grs.pins := by simp
    simp only [abortOpenScan, h, Option.map_none, Option.toList_none, joined, pins]
    exact congrArg (fun g => { s with gtu := g }) closed
  | some o =>
    rw [abortOpenScan_eq h, dropWatch_of_unwatched (by simp [watch]), removeRecords_of_closed]
    have held : s.pfb = { s.pfb with contexts := [] } := by rw [← contexts]
    rw [contexts, List.filter_nil, ← held]
    simp only [Option.map_some, Option.toList_some, not_contains_singleton]
    rfl

theorem declarationPark_eq (watch : s.bkm.watch = .off) (run : s.bkm.runCount = 0) (contexts : s.pfb.contexts = [])
    (joined : removeRecords (ofScans []) s.gtu = s.gtu) :
    declarationPark s =
      { s with
        trc :=
          match s.trc.state with
          | .scanning _ _ _ _ | .point _ _ => (moveTo (.transit .park .noAction) s).trc
          | .transit _ .scan | .transit _ .point =>
            if Config.declarationTurnsTransit then (moveTo (.transit .park .noAction) s).trc else s.trc
          | .dwell _ => (moveTo (.dwell false) s).trc
          | _ => s.trc
        gtu :=
          { removeRecords (ofScans (scansClosed s)) s.gtu with
            comparator := if isScanning s.trc.state then none else s.gtu.comparator
            openScan := if isScanning s.trc.state then none else s.gtu.openScan
            pointTimer := if isPoint s.trc.state then none else s.gtu.pointTimer }
        grs := { s.grs with pins := s.grs.pins.filter fun p => !(scansClosed s).contains p.scan } } := by
  have pins : s.grs.pins.filter (fun p => !([] : List Nat).contains p.scan) = s.grs.pins := by simp
  cases state : s.trc.state with
  | scanning d phase approach park =>
    have aborted := abortOpenScan_of_unwatched watch contexts joined
    have moved : moveTo (.transit .park .noAction) (abortOpenScan s) = _ :=
      moveTo_of_unwatched (by rw [aborted]; exact watch) (by rw [aborted]; exact run) rfl rfl
    simp only [declarationPark, parkOrder, state]
    rw [moved, moveTo_trc, moveTo_trc, aborted]
    simp only [scansClosed, state, isScanning, isPoint, if_true]
    rw [removeRecords_rest]
    rfl
  | point position period =>
    simp only [declarationPark, parkOrder, state]
    rw [moveTo_of_unwatched watch run rfl rfl]
    simp [scansClosed, state, isScanning, isPoint, joined]
  | transit target following =>
    cases following with
    | noAction => simp [declarationPark, parkOrder, state, scansClosed, isScanning, isPoint, joined]
    | scan | point =>
      simp only [declarationPark, parkOrder, state]
      split
      · rw [moveTo_of_unwatched watch run rfl rfl]
        simp [scansClosed, state, isScanning, isPoint, joined]
      · simp [scansClosed, state, isScanning, isPoint, joined]
  | dwell resume =>
    simp only [declarationPark, parkOrder, state]
    rw [moveTo_of_unwatched watch run rfl rfl]
    simp [scansClosed, state, isScanning, isPoint, joined]
  | _ => simp [declarationPark, parkOrder, state, scansClosed, isScanning, isPoint, joined]

/-! ## The declaration (R106, R145) -/

theorem causeDetail_eq (kind : CauseKind) :
    causeDetail kind =
      match kind with
      | .gaugeLoss => 1
      | .edgeCollapse => 2
      | .input => 3 := by
  cases kind <;> rfl

/-- The break monitor after the cause record and the steps to BROKEN. -/
def brokenMonitor (d : Declared) (s : State) : BreakMonitor :=
  (breakDown (fillCause d s)).bkm

/-- R106, R145: the state in which the park order of a declaration is given. -/
def abandoned (d : Declared) (s : State) : State :=
  { s with
    bkm := brokenMonitor d s
    gtu := removeRecords (ofScans (s.pfb.contexts.map ScanContext.number)) s.gtu
    grs := { s.grs with pins := s.grs.pins.filter fun p => !(s.pfb.contexts.map ScanContext.number).contains p.scan }
    pfb :=
      { s.pfb with
        contexts := [], pass := none, working := s.pfb.published
        reseed := (setReseed (nextMark s) s).pfb.reseed } }

theorem abandonAll_eq (d : Declared) (s : State) : abandonAll (breakDown (fillCause d s)) = abandoned d s := by
  have none_left : (s.pfb.contexts.filter fun c => !(s.pfb.contexts.map ScanContext.number).contains c.number) = [] := by
    rw [List.filter_eq_nil_iff]
    intro c hc
    simpa using ⟨c, hc, rfl⟩
  have base : breakDown (fillCause d s) = { s with bkm := brokenMonitor d s } := rfl
  rw [base]
  simp only [abandonAll, abandoned, removeScans, purge, setReseed, State.modGtu, State.modPfb, State.modGrs,
    none_left]
  rfl

theorem brokenMonitor_eq (d : Declared) (s : State) :
    brokenMonitor d s =
      { s.bkm with
        state := .broken
        failedProbes := if s.bkm.state = .clear then 0 else s.bkm.failedProbes
        watch := .off, runCount := 0
        cause :=
          some
            (s.bkm.cause.getD
              { kind := d.kind, origin := d.origin, scan := d.scan, position := s.trc.position
                zone := d.zone, detail := d.detail
                gradeCode := (activeGrade s).map GradeRecord.code }) } := by
  cases cause : s.bkm.cause <;> simp [brokenMonitor, breakDown, fillCause, State.modBkm, cause]

theorem abandoned_joined (d : Declared) (s : State) :
    removeRecords (ofScans []) (abandoned d s).gtu = (abandoned d s).gtu := by
  refine (removeRecords_removeRecords ..).trans (congrArg (removeRecords · s.gtu) (funext fun r => ?_))
  rw [ofScans_append, List.append_nil]

/-- R145: the scans whose records and pins go: every scan not published, and the open scan that the park order aborts. -/
def scansGone (s : State) : List Nat := s.pfb.contexts.map ScanContext.number ++ scansClosed s

/-- R25: the traverse after the park order of a declaration. -/
def parkedTraverse (s : State) : Traverse :=
  match s.trc.state with
  | .scanning _ _ _ _ | .point _ _ => (moveTo (.transit .park .noAction) s).trc
  | .transit _ .scan | .transit _ .point =>
    if Config.declarationTurnsTransit then (moveTo (.transit .park .noAction) s).trc else s.trc
  | .dwell _ => (moveTo (.dwell false) s).trc
  | _ => s.trc

theorem parkedTraverse_congr {u : State} (h : u.trc = s.trc) : parkedTraverse u = parkedTraverse s := by
  simp only [parkedTraverse, moveTo_trc, h]

theorem declarationPark_abandoned (d : Declared) (s : State) :
    declarationPark (abandoned d s) =
      { abandoned d s with
        trc := parkedTraverse s
        gtu :=
          { removeRecords (ofScans (scansGone s)) s.gtu with
            comparator := if isScanning s.trc.state then none else s.gtu.comparator
            openScan := if isScanning s.trc.state then none else s.gtu.openScan
            pointTimer := if isPoint s.trc.state then none else s.gtu.pointTimer }
        grs := { s.grs with pins := s.grs.pins.filter fun p => !(scansGone s).contains p.scan } } := by
  have rest : (abandoned d s).gtu.comparator = s.gtu.comparator ∧ (abandoned d s).gtu.openScan = s.gtu.openScan
      ∧ (abandoned d s).gtu.pointTimer = s.gtu.pointTimer := by
    simp only [abandoned]
    rw [removeRecords_rest]
    exact ⟨rfl, rfl, rfl⟩
  obtain ⟨comparator, openScan, pointTimer⟩ := rest
  have closed : scansClosed (abandoned d s) = scansClosed s := by
    rw [scansClosed, openScan]
    rfl
  have purged : removeRecords (ofScans (scansClosed s)) (abandoned d s).gtu =
      removeRecords (ofScans (scansGone s)) s.gtu := by
    refine (removeRecords_removeRecords ..).trans (congrArg (removeRecords · s.gtu) (funext fun r => ?_))
    rw [ofScans_append, scansGone]
  have pins : (abandoned d s).grs.pins.filter (fun p => !(scansClosed s).contains p.scan) =
      s.grs.pins.filter fun p => !(scansGone s).contains p.scan := by
    simp only [abandoned, scansGone, List.filter_filter, List.contains_append, Bool.not_or, Bool.and_comm]
  rw [declarationPark_eq (s := abandoned d s) rfl rfl rfl (abandoned_joined d s)]
  simp only [comparator, openScan, pointTimer, closed, purged, pins]
  rw [← parkedTraverse_congr (s := s) (u := abandoned d s) rfl]
  rfl

theorem declareBreak_eq (d : Declared) (s : State) :
    declareBreak d s = raiseFor .sheetBreak (causeDetail d.kind) s.pfb.scanNumber (declarationPark (abandoned d s)) := by
  rw [declareBreak, abandonAll_eq, raiseAlarm, declarationPark_abandoned]
  rfl

/-- R145: the blocks that a declaration changes; every other is left. -/
theorem declareBreak_blocks (d : Declared) (s : State) :
    (declareBreak d s).trc = parkedTraverse s
      ∧ (declareBreak d s).gtu =
          { removeRecords (ofScans (scansGone s)) s.gtu with
            comparator := if isScanning s.trc.state then none else s.gtu.comparator
            openScan := if isScanning s.trc.state then none else s.gtu.openScan
            pointTimer := if isPoint s.trc.state then none else s.gtu.pointTimer }
      ∧ (declareBreak d s).grs = { s.grs with pins := s.grs.pins.filter fun p => !(scansGone s).contains p.scan }
      ∧ (declareBreak d s).pfb =
          { s.pfb with
            contexts := [], pass := none, working := s.pfb.published
            reseed := (setReseed (nextMark s) s).pfb.reseed }
      ∧ (declareBreak d s).bkm = brokenMonitor d s
      ∧ (declareBreak d s).plx = (raiseFor .sheetBreak (causeDetail d.kind) s.pfb.scanNumber s).plx := by
  rw [declareBreak_eq, declarationPark_abandoned]
  simp [raiseFor, abandoned]

theorem not_ofScans (l : List Nat) (r : SampleRecord) :
    (!ofScans l r) = (r.kind == .point || !l.contains r.number) := by
  rw [ofScans, Bool.not_and, bne, Bool.not_not]

/-- Settles O47: block by block, from the state the park order finds. -/
theorem breakDeclaration : Obligations.BreakDeclaration := by
  intro d s t
  obtain ⟨trc, gtu, grs, pfb, bkm, plx⟩ := declareBreak_blocks d s
  rw [brokenMonitor_eq] at bkm
  refine ⟨by rw [bkm], by rw [bkm], by rw [bkm], fun c hc => by rw [bkm, hc]; rfl, fun hc => by rw [bkm, hc]; rfl,
    by rw [bkm], by rw [bkm], by rw [bkm], by rw [bkm], by rw [pfb], by rw [pfb], by rw [pfb], by rw [pfb],
    by rw [pfb], by rw [pfb], by rw [pfb], by rw [pfb], by rw [pfb], pfb, ?_, ?_, ?_, ?_, ?_⟩
  · intro scanning gone kept queue held
    refine ⟨grs, gtu.trans ?_⟩
    simp only [removeRecords_eq, not_ofScans]
    rfl
  · intro r hr scan c hc
    have contents := removeRecords_contents (ofScans (scansGone s)) s.gtu
    have mem : r ∈ (removeRecords (ofScans (scansGone s)) s.gtu).queue
        ++ (removeRecords (ofScans (scansGone s)) s.gtu).held.toList := by rwa [gtu] at hr
    rw [contents, List.mem_filter, not_ofScans] at mem
    intro same
    have gone : r.number ∈ scansGone s := same ▸ List.mem_append_left _ (List.mem_map_of_mem hc)
    simp [scan, gone] at mem
  · exact trc
  · exact plx.trans
      (congrArg (fun n => (raiseFor .sheetBreak n s.pfb.scanNumber s).plx) (causeDetail_eq d.kind))
  · simp [t]

/-! ## Causes and the gauge-loss count (R139 to R145) -/

/-- R145: the zone of a position between two boundaries is that of the slot they enclose. -/
theorem zoneAt_of_enclosed (g : Geometry) {j : Nat} {p : Int} (hj : j < g.slotCount) (low : (g.boundary j : Int) ≤ p)
    (high : p < g.boundary (j + 1)) : g.zoneAt p = j / g.S := by
  have count := reached_count g.boundary p g.slotCount (j + 1) hj
    (fun i hi => (Int.ofNat_le.2 (boundary_mono g (Nat.le_of_lt_succ hi))).trans low)
    (fun i hi _ => high.trans_le (Int.ofNat_le.2 (boundary_mono g hi)))
  rw [Geometry.zoneAt, count, Nat.add_sub_cancel]

theorem zoneAt_of_last {g : Geometry} (ranged : g.inRange = true) : g.zoneAt g.W1 = (g.slotCount - 1) / g.S := by
  have count := reached_count g.boundary g.W1 g.slotCount g.slotCount le_rfl
    (fun i hi => Int.ofNat_le.2 (boundary_lt g ranged hi).le) (fun i low high => absurd high (Nat.not_lt.2 low))
  rw [Geometry.zoneAt, count]

theorem headZone_eq (s : State) :
    headZone s =
      match s.gtu.geometry with
      | none => none
      | some g =>
        if (g.W0 : Int) ≤ s.trc.position ∧ s.trc.position ≤ g.W1 then some (g.zoneAt s.trc.position) else none := by
  unfold headZone
  cases s.gtu.geometry with
  | none => rfl
  | some g => exact if_congr (by simp [Geometry.inWindow]) rfl rfl

/-- R140: the machine is off: some line has the role, and none with it is active. -/
theorem machineOff_iff (lines : List InputLine) :
    (machineRunPresent lines && !machineRunActive lines) = true ↔
      (∃ l ∈ lines, l.setting.role = .machineRun)
        ∧ ∀ l ∈ lines, l.setting.role = .machineRun → lineActive l = false := by
  simp [machineRunPresent, machineRunActive]

theorem countedRun_of_value {g : GradeRecord} {v : Nat} {clamped : Bool}
    (running : ¬ (machineRunPresent s.plx.inputs && !machineRunActive s.plx.inputs) = true) :
    countedRun s g (.valid v clamped) = if v < g.breakThreshold then s.bkm.runCount + 1 else 0 :=
  if_neg running

theorem countedRun_of_unread {g : GradeRecord} {bw : Reading}
    (running : ¬ (machineRunPresent s.plx.inputs && !machineRunActive s.plx.inputs) = true)
    (unread : ∀ v clamped, bw ≠ .valid v clamped) : countedRun s g bw = s.bkm.runCount := by
  cases bw with
  | valid v clamped => exact absurd rfl (unread v clamped)
  | invalid | absent | empty => exact if_neg running

/-- R140: a run that does not rise is stored, and declares nothing. -/
theorem countResult_of_not_rising {g : GradeRecord} {bw : Reading} (origin : Origin) (scan : Nat) (zone : Option Nat)
    (h : countedRun s g bw ≤ s.bkm.runCount) :
    countResult g bw origin scan zone s = { s with bkm := { s.bkm with runCount := countedRun s g bw } } := by
  simp [countResult, Nat.not_lt.2 h, State.modBkm]

theorem countResult_of_rising {g : GradeRecord} {bw : Reading} (origin : Origin) (scan : Nat) (zone : Option Nat)
    (h : countedRun s g bw = s.bkm.runCount + 1) :
    countResult g bw origin scan zone s =
      if s.bkm.runCount + 1 < g.breakRun then { s with bkm := { s.bkm with runCount := s.bkm.runCount + 1 } }
      else
        declareBreak
          { kind := .gaugeLoss, origin := origin, scan := scan, zone := zone, detail := s.bkm.runCount + 1 }
          { s with bkm := { s.bkm with runCount := s.bkm.runCount + 1 } } := by
  by_cases short : s.bkm.runCount + 1 < g.breakRun
  · simp [countResult, h, short, State.modBkm]
  · simp [countResult, h, short, State.modBkm, Nat.not_lt.1 short]

/-- R140: which SCAN results count. -/
theorem watchCounts_iff {g : Geometry} (hg : s.gtu.geometry = some g) (scan slot : Nat) :
    watchCounts s scan slot = true ↔
      s.bkm.state = .clear
        ∧ ∃ first last, s.bkm.watch = .scan scan (some (first, last))
          ∧ first * g.S ≤ slot ∧ slot ≤ last * g.S + (g.S - 1) := by
  unfold watchCounts
  rw [hg]
  obtain _ | ⟨n, _ | ⟨first, last⟩⟩ | _ := s.bkm.watch
  case scan.some =>
    simp only [Bool.and_eq_true, beq_iff_eq, decide_eq_true_eq, Watch.scan.injEq, Option.some.injEq, Prod.mk.injEq]
    constructor
    · rintro ⟨⟨⟨own, clear⟩, low⟩, high⟩
      exact ⟨clear, first, last, ⟨own, rfl, rfl⟩, low, high⟩
    · rintro ⟨clear, _, _, ⟨own, rfl, rfl⟩, low, high⟩
      exact ⟨⟨⟨own, clear⟩, low⟩, high⟩
  all_goals simp

/-- R141: a POINT result counts in POINT and CLEAR only. -/
theorem watchPointResult_of_ignored (r : SampleRecord) (bw : Reading)
    (h : isPoint s.trc.state = false ∨ s.bkm.state ≠ .clear) : watchPointResult r bw s = s := by
  unfold watchPointResult
  split
  next position period g state _ =>
    obtain outside | other := h
    · rw [state] at outside
      cases outside
    · exact if_neg (by simpa using other)
  next => rfl

/-! ## Probe reports (R151, R152) -/

theorem probeReport_of_sheet {scan width minimum : Nat} (h : s.bkm.state = .probing) (found : minimum ≤ width) :
    probeReport scan width minimum s =
      endAlarm .sheetBreak
        { s with
          bkm :=
            { s.bkm with
              state := .clear
              lastProbe := some { scan := scan, width := width, minimum := minimum, sheetFound := true } } } := by
  simp [probeReport, h, found, recordProbe, breakEnds, State.modBkm]

theorem probeReport_of_none {scan width minimum : Nat} (h : s.bkm.state = .probing) (none : width < minimum) :
    probeReport scan width minimum s =
      parkOrder
        { s with
          bkm :=
            { s.bkm with
              state :=
                .waiting
                  (if s.trc.state = .parked then .running (s.bkm.recoveryDelay * 1000000) else .notStarted)
              lastProbe := some { scan := scan, width := width, minimum := minimum, sheetFound := false }
              failedProbes := min 255 (s.bkm.failedProbes + 1) } } := by
  simp [probeReport, h, Nat.not_le.2 none, recordProbe, noSheet, returnToWaiting, State.modBkm, recoveryUs]

/-- Settles O48: each cause by the break state, the count by the machine and the reading, the results by their kind. -/
theorem breakCauses : Obligations.BreakCauses := by
  refine ⟨fun g p ranged => ⟨fun j hj low high => zoneAt_of_enclosed g hj low high, ?_⟩, headZone_eq, fun s => ?_⟩
  · rintro rfl
    exact zoneAt_of_last ranged
  · refine ⟨fun line other => ?_, fun line broken => ?_, fun scan width clear => ?_, fun scan width other => ?_, ?_, ?_, ?_⟩
    · simp [inputCause, other]
    · simp [inputCause, broken]
    · simp [edgeCollapse, clear]
    · simp [edgeCollapse, other]
    · intro g bw origin scan zone off counted
      have machine := machineOff_iff s.plx.inputs
      have off_run (h : off) : countedRun s g bw = 0 := if_pos (machine.2 h)
      have on (h : ¬ off) := mt machine.1 h
      refine ⟨fun h => ?_, fun h unread => ?_, fun v clamped h hbw above => ?_, fun v clamped h hbw below => ?_⟩
      · rw [countResult_of_not_rising _ _ _ (by rw [off_run h]; exact Nat.zero_le _), off_run h]
      · have run := countedRun_of_unread (g := g) (on h) unread
        rw [countResult_of_not_rising _ _ _ run.le, run]
      · subst hbw
        have run := (countedRun_of_value (g := g) (clamped := clamped) (on h)).trans (if_neg (Nat.not_lt.2 above))
        rw [countResult_of_not_rising _ _ _ (by rw [run]; exact Nat.zero_le _), run]
      · subst hbw
        exact countResult_of_rising _ _ _ ((countedRun_of_value (on h)).trans (if_pos below))
    · intro j bw r
      refine ⟨fun probe => ?_, fun slot c g geo scan hslot hc hg hgeo => ?_,
        fun position period g geo point fresh state clear hg hgeo => ?_, fun point ignored => ?_⟩
      · rw [watchResult, probe]
      · intro counted
        have watched : watchResult j bw s =
            if watchCounts s r.number slot then countResult g bw .scan r.number (some (slot / geo.S)) s else s := by
          simp only [watchResult, scan, watchScanResult, hslot, hc, hgeo, Option.bind_some, hg, Option.getD_some,
            Option.map_some, r]
        have counts := watchCounts_iff hgeo r.number slot
        exact ⟨fun h => watched.trans (if_pos (counts.2 h)), fun h => watched.trans (if_neg (mt counts.1 h))⟩
      · simp [watchResult, point, fresh, watchPointResult, state, clear, hg, hgeo, r]
      · have handed : watchResult j bw s = if j.stale then s else watchPointResult r bw s := by
          rw [watchResult, point]
        rw [handed]
        split
        next => rfl
        next fresh => exact watchPointResult_of_ignored r bw (ignored.resolve_left fresh)
    · intro scan width minimum report
      exact ⟨fun other => by simp [probeReport, other], probeReport_of_sheet, probeReport_of_none⟩

end Sys2Proof.Machine
end

section
/-! PROOFS. The source shutter (06) and the input lines (08): the command and its supervision, the confirm, and the debounced changes with what they do by role. -/

namespace Sys2Proof.Machine

variable {s : State}

/-! ## The command and its supervision (R134 to R136) -/

theorem shutterFollow_of_same (h : shutterWanted s = s.sdu.shutterOpen) : shutterFollow s = s := by
  simp [shutterFollow, h]

/-- R134, R135: a change of the command restarts the window, and may find the confirm agreeing. -/
theorem shutterFollow_of_change (h : shutterWanted s ≠ s.sdu.shutterOpen) :
    shutterFollow s =
      let u : State :=
        { s with sdu := { s.sdu with shutterOpen := shutterWanted s, supervision := .settling, window := 0 } }
      if s.sdu.confirm.level = shutterWanted s then shutterAgrees u else u := by
  simp only [shutterFollow, beq_iff_eq, if_neg h]
  rfl

/-- R126, R135: the supervision AGREED; a dwell that waits in OPENING goes into its AIR phase. -/
theorem shutterAgrees_blocks (s : State) :
    (shutterAgrees s).sdu.supervision = .agreed ∧ (shutterAgrees s).plx = (endAlarm .shutter s).plx
      ∧ (shutterAgrees s).trc = s.trc := by
  unfold shutterAgrees startAir
  dsimp only
  (repeat' split) <;> simp [endAlarm]

theorem shutterAgrees_of_opening {d : DwellRecord} (hd : s.sdu.dwell = some d) (waiting : d.step = .opening)
    (commanded : s.sdu.shutterOpen = true) :
    (shutterAgrees s).sdu.dwell = some { d with step := .air }
      ∧ (shutterAgrees s).gtu.subGateTimer = some 0 ∧ (shutterAgrees s).gtu.gateTimer = 0
      ∧ (shutterAgrees s).gtu.counters = { bwc := 0, mac := 0, mrc := 0, clc := 0 } := by
  have agreed : shutterAgrees s =
      (capture ((endAlarm .shutter (s.modSdu fun u => { u with supervision := .agreed })).modSdu
        fun u => { u with dwell := some { d with step := .air } })).modGtu fun g => { g with subGateTimer := some 0 } := by
    simp [shutterAgrees, startAir, commanded, hd, waiting]
  rw [agreed]
  exact ⟨by simp, rfl, rfl, rfl⟩

/-- R136: a failure raises SHUTTER, and with the command open moves the head and lets the command follow. -/
theorem shutterFails_eq (s : State) :
    shutterFails s =
      let f := raiseFor .shutter (if s.sdu.shutterOpen then 1 else 0) s.pfb.scanNumber
        { s with sdu := { s.sdu with supervision := .failed } }
      if s.sdu.shutterOpen = false then f else shutterFollow (shutterFailMove f) := by
  cases h : s.sdu.shutterOpen <;> simp [shutterFails, raiseAlarm, State.modSdu, h]

theorem shutterFailMove_eq (f : State) (state : TraverseState) :
    f.trc.state = state →
      shutterFailMove f =
        match state with
        | .dwell _ =>
          { moveTo .parked (abortDwell f) with
            trc := { (moveTo .parked (abortDwell f)).trc with dwellHold := true } }
        | .scanning _ _ _ _ | .point _ _ => parkOrder f
        | _ => f := by
  intro h
  unfold shutterFailMove
  rw [h]
  cases state <;> rfl

/-! ## The confirm (R3, R40, R125, R135) -/

theorem rawChange_eq (active : Bool) (d : Debounced) :
    rawChange active d =
      if d.raw = active then d else { raw := active, level := d.level, timer := some 0 } := by
  simp [rawChange]

theorem supervise_eq (s : State) (agrees : Bool) (supervision : Supervision) :
    decide (s.sdu.confirm.level = s.sdu.shutterOpen) = agrees → s.sdu.supervision = supervision →
      supervise s =
        match agrees, supervision with
        | true, .settling | true, .failed => shutterAgrees s
        | false, .agreed => motionTests (shutterFails s)
        | true, .agreed | false, .settling | false, .failed => s := by
  rintro rfl rfl
  unfold supervise
  by_cases agree : s.sdu.confirm.level = s.sdu.shutterOpen
  · simp only [agree, beq_self_eq_true, if_true, decide_true]
    cases s.sdu.supervision <;> rfl
  · simp only [beq_eq_false_iff_ne.2 agree, decide_eq_false agree]
    cases s.sdu.supervision <;> rfl

theorem confirmSettled_of_running (running : s.sdu.confirm.timer.isSome = true) :
    confirmSettled s =
      supervise (markConfirm s.sdu.confirm.raw
        { s with
          sdu :=
            { s.sdu with
              confirm := { raw := s.sdu.confirm.raw, level := s.sdu.confirm.raw, timer := none } } }) := by
  obtain ⟨n, timer⟩ := Option.isSome_iff_exists.1 running
  simp only [confirmSettled, timer]
  rfl

/-- Settles O50: the command, the agreement, the failure, the confirm and the window, each by its branches. -/
theorem shutterUnit : Obligations.ShutterUnit := by
  intro s wanted settled
  refine ⟨fun h => shutterFollow_of_same h, fun h disagree => ?_, fun h agree => ?_, ?_, ?_, fun active => ?_,
    fun running => ?_, fun settling disagree => ?_⟩
  · exact (shutterFollow_of_change h).trans (if_neg disagree)
  · exact (shutterFollow_of_change h).trans (if_pos agree)
  · obtain ⟨supervision, plx, trc⟩ := shutterAgrees_blocks s
    exact ⟨supervision, plx, trc, fun d hd waiting commanded => shutterAgrees_of_opening hd waiting commanded⟩
  · intro f
    refine (shutterFails_eq s).trans (if_congr Iff.rfl rfl (congrArg shutterFollow ?_))
    have state : f.trc.state = s.trc.state := rfl
    exact shutterFailMove_eq f _ state
  · refine congrArg Host.Outcome.next ?_
    change { s with sdu := { s.sdu with confirm := rawChange active s.sdu.confirm } } = _
    rw [rawChange_eq]
    split <;> rfl
  · intro marked
    refine congrArg Host.Outcome.next ((confirmSettled_of_running running).trans ?_)
    have hmarked : markConfirm s.sdu.confirm.raw settled = marked := by
      unfold markConfirm
      refine if_congr Iff.rfl ?_ rfl
      simp only [beq_iff_eq]
      rfl
    have level : marked.sdu.confirm.level = s.sdu.confirm.raw := by
      simp only [marked]
      split <;> rfl
    have rest : marked.sdu.shutterOpen = s.sdu.shutterOpen ∧ marked.sdu.supervision = s.sdu.supervision := by
      simp only [marked]
      split <;> exact ⟨rfl, rfl⟩
    exact (congrArg supervise hmarked).trans (supervise_eq marked _ _ (by rw [level, rest.1]) rest.2)
  · refine congrArg Host.Outcome.next ?_
    simp [Machine.windowExpiry, settling, disagree]

/-! ## Input lines (R163 to R168) -/

theorem lineState_eq (l : InputLine) :
    lineState l = l.high.map fun high => high == (l.setting.polarity == .activeHigh) := by
  unfold lineState
  cases l.setting.polarity <;> rcases l.high with _ | _ | _ <;> rfl

theorem lineActive_iff (l : InputLine) : lineActive l = true ↔ l.high = some (l.setting.polarity == .activeHigh) := by
  rw [lineActive, lineState_eq, beq_iff_eq]
  cases l.high <;> simp

theorem takeLevel_of_same {line : Nat} {l : InputLine} (h : s.plx.inputs[line]? = some l)
    (same : l.high = some l.raw) : takeLevel line s = s := by
  simp [takeLevel, h, same]

theorem takeLevel_of_unsettled {line : Nat} {l : InputLine} (h : s.plx.inputs[line]? = some l) (unsettled : l.high = none) :
    takeLevel line s =
      establishConsequences l.setting (setLine line { l with high := some l.raw, timer := 0 } s) := by
  simp [takeLevel, h, unsettled]

theorem takeLevel_of_change {line : Nat} {l : InputLine} (h : s.plx.inputs[line]? = some l)
    (other : l.high = some (!l.raw)) :
    takeLevel line s =
      edgeConsequences line l.setting (l.raw == (l.setting.polarity == .activeHigh))
        (setLine line { l with high := some l.raw, timer := 0, change := true } s) := by
  have active : lineActive { l with high := some l.raw, timer := 0 } = (l.raw == (l.setting.polarity == .activeHigh)) := by
    rw [Bool.eq_iff_iff, lineActive_iff, beq_iff_eq, Option.some.injEq]
  simp only [takeLevel, h, other, active]
  cases l.raw <;> rfl

/-- R163: what an establishment does, by role and mode. -/
theorem establishConsequences_eq (setting : InputSetting) (s : State) :
    establishConsequences setting s =
      match setting.role, setting.mode with
      | .interlock, _ => formInterlock s
      | .break, .level => formLevelCondition s
      | _, _ => s := by
  unfold establishConsequences
  cases setting.role <;> cases setting.mode <;> rfl

/-- R165: what a debounced change does, by role, mode and edge. -/
theorem edgeConsequences_eq (line : Nat) (setting : InputSetting) (leading : Bool) (s : State) :
    edgeConsequences line setting leading s =
      match setting.role, setting.mode, leading with
      | .interlock, _, _ => formInterlock s
      | .break, .level, _ => formLevelCondition s
      | .break, .rising, true | .break, .falling, false | .break, .both, _ => motionTests (inputCause line s)
      | .stdRequest, .level, true | .stdRequest, .rising, true | .stdRequest, .falling, false
      | .stdRequest, .both, _ => motionTests { s with sdu := { s.sdu with wanted := true } }
      | _, _, _ => s := by
  unfold edgeConsequences
  cases setting.role with
  | interlock | noRole | machineRun => cases setting.mode <;> cases leading <;> rfl
  | _ => cases setting.mode <;> cases leading <;> rfl

theorem lowestLine_of_any {test : InputLine → Bool} {lines : List InputLine} (h : lines.any test = true) :
    lowestLine test lines = lines.findIdx test := if_pos h

/-- R167: the interlock is open exactly when a line of its role is not ACTIVE. -/
theorem interlockFormed_eq (lines : List InputLine) : interlockFormed lines = !lines.any interlockOpen := by
  rw [interlockFormed, List.all_eq_not_any_not]
  congr 2
  funext l
  rw [interlockOpen, Bool.not_or, bne, Bool.not_not]

theorem formInterlock_of_same (h : s.plx.interlock = interlockFormed s.plx.inputs) :
    formInterlock s = { s with plx := { s.plx with interlock := interlockFormed s.plx.inputs } } := by
  unfold formInterlock
  rw [← h]
  cases s.plx.interlock <;> rfl

/-- R168: a loss of the interlock: the alarm unless the head is at rest, then the halt order. -/
theorem formInterlock_of_loss (closed : s.plx.interlock = true) (lost : interlockFormed s.plx.inputs = false) :
    formInterlock s =
      motionTests (haltOrder
        (let formed : State := { s with plx := { s.plx with interlock := interlockFormed s.plx.inputs } }
        if atRest s.trc.state then formed
        else
          raiseFor .interlock (s.plx.inputs.findIdx interlockOpen) s.pfb.scanNumber formed)) := by
  have some_open : s.plx.inputs.any interlockOpen = true := by
    rw [interlockFormed_eq] at lost
    simpa using lost
  unfold formInterlock
  rw [closed, lost]
  simp only [interlockLoss, State.modPlx, raiseAlarm, lowestLine_of_any some_open]

theorem formInterlock_of_regain (opened : s.plx.interlock = false) (regained : interlockFormed s.plx.inputs = true) :
    formInterlock s =
      motionTests (endAlarm .interlock { s with plx := { s.plx with interlock := interlockFormed s.plx.inputs } }) := by
  unfold formInterlock
  rw [opened, regained]
  rfl

theorem formLevelCondition_of_same (h : s.bkm.levelCondition = s.plx.inputs.any levelBreakActive) :
    formLevelCondition s =
      { s with bkm := { s.bkm with levelCondition := s.plx.inputs.any levelBreakActive } } := by
  unfold formLevelCondition
  rw [← h]
  cases s.bkm.levelCondition <;> rfl

/-- R143: a level condition that appears is an INPUT cause from the line that made it. -/
theorem formLevelCondition_of_appeared (clear : s.bkm.levelCondition = false)
    (appeared : s.plx.inputs.any levelBreakActive = true) :
    formLevelCondition s =
      motionTests (inputCause (s.plx.inputs.findIdx levelBreakActive)
        { s with bkm := { s.bkm with levelCondition := s.plx.inputs.any levelBreakActive } }) := by
  unfold formLevelCondition
  rw [clear, lowestLine_of_any appeared, appeared]
  rfl

theorem formLevelCondition_of_gone (active : s.bkm.levelCondition = true)
    (gone : s.plx.inputs.any levelBreakActive = false) :
    formLevelCondition s =
      motionTests { s with bkm := { s.bkm with levelCondition := s.plx.inputs.any levelBreakActive } } := by
  unfold formLevelCondition
  rw [active, gone]
  rfl

/-- Settles O51: the debounced change by what it finds and by role, and the two conditions as the lines form them. -/
theorem inputLines : Obligations.InputLines := by
  intro i l s hl
  refine ⟨lineState_eq l, lineActive_iff l, ?_⟩
  intro put changed established leading
  refine ⟨fun high => ?_, fun same => ?_, fun unsettled => ?_, fun other => ?_, ?_, ?_⟩
  · refine congrArg Host.Outcome.next ?_
    simp only [Machine.inputRawChange, hl, beq_iff_eq]
    rfl
  · exact congrArg Host.Outcome.next (takeLevel_of_same hl same)
  · exact congrArg Host.Outcome.next ((takeLevel_of_unsettled hl unsettled).trans (establishConsequences_eq _ _))
  · exact congrArg Host.Outcome.next ((takeLevel_of_change hl other).trans (edgeConsequences_eq _ _ _ _))
  · intro satisfied formed
    refine ⟨fun same => ?_, fun closed lost => ?_, fun opened regained => ?_⟩
    · exact formInterlock_of_same same
    · refine (formInterlock_of_loss closed lost).trans (congrArg (fun u => motionTests (haltOrder u)) ?_)
      unfold atRest
      cases s.trc.state <;> rfl
    · exact formInterlock_of_regain opened regained
  · intro isLevel formed
    exact ⟨formLevelCondition_of_same, formLevelCondition_of_appeared, formLevelCondition_of_gone⟩

end Sys2Proof.Machine
end
